-- ==== Sys2Proof/Word.lean ====
section
/-! DEFINITION. The word types of the command port, the sample port and the operand fields
(spec/30_encoding.md R80, R81; notation of spec/00_scope.md R12). -/

namespace Sys2Proof

/-- One command word: 32 bits, presented whole on `cmd_data` (R80, R81). -/
abbrev Word := BitVec 32

/-- One byte, used only where a transport outside the engine serialises words (R65). -/
abbrev Byte := BitVec 8

/-- The 16-bit operand field `V` of a command word, and the raw value of a staged preset field (R80, R37). -/
abbrev Half := BitVec 16

/-- One sample on the sample port: the two's-complement s16 of R84 and R233. -/
abbrev Sample := BitVec 16

end Sys2Proof
end

