-- ==== Sys2Proof/Syntax.lean ====
section
/-! DEFINITION. The commands of the engine: one constructor for each row of spec/opcode_table.json
(spec/30_encoding.md R82), with the operand fields the row uses, undecoded. A field a command does not
use (R90) is no operand. Also the reasons for which the decoder finds no row (R89). -/

namespace Sys2Proof

/-- The commands. `a` is the operand field `A` (bits 23:16) and `v` the operand field `V` (bits 15:0) of R80. -/
inductive Instr where
  /-- `NOP`, OP 0x00 (R247). -/
  | nop
  /-- `NOTE_ON`, OP 0x01: note number and velocity (R148). -/
  | noteOn (a : BitVec 8) (v : Half)
  /-- `NOTE_OFF`, OP 0x02: note number (R153). -/
  | noteOff (a : BitVec 8)
  /-- `CC.ATTACK` (R260). -/
  | ccAttack (v : Half)
  /-- `CC.DECAY` (R261). -/
  | ccDecay (v : Half)
  /-- `CC.SUSTAIN` (R262). -/
  | ccSustain (v : Half)
  /-- `CC.RELEASE` (R263). -/
  | ccRelease (v : Half)
  /-- `CC.CUTOFF` (R264). -/
  | ccCutoff (v : Half)
  /-- `CC.WAVE_A` (R265). -/
  | ccWaveA (v : Half)
  /-- `CC.WAVE_B` (R266). -/
  | ccWaveB (v : Half)
  /-- `CC.WAVE_C` (R267). -/
  | ccWaveC (v : Half)
  /-- `CC.DETUNE` (R268). -/
  | ccDetune (v : Half)
  /-- `CC.AMPLITUDE` (R269). -/
  | ccAmplitude (v : Half)
  /-- `SET.ATTACK` (R270). -/
  | setAttack (v : Half)
  /-- `SET.DECAY` (R271). -/
  | setDecay (v : Half)
  /-- `SET.SUSTAIN` (R272). -/
  | setSustain (v : Half)
  /-- `SET.RELEASE` (R273). -/
  | setRelease (v : Half)
  /-- `SET.F_ATTACK` (R274). -/
  | setFAttack (v : Half)
  /-- `SET.F_DECAY` (R275). -/
  | setFDecay (v : Half)
  /-- `SET.F_SUSTAIN` (R276). -/
  | setFSustain (v : Half)
  /-- `SET.F_RELEASE` (R277). -/
  | setFRelease (v : Half)
  /-- `SET.CUTOFF` (R278). -/
  | setCutoff (v : Half)
  /-- `SET.F_ENV_EN` (R279). -/
  | setFEnvEn (v : Half)
  /-- `SET.WAVE_A` (R280). -/
  | setWaveA (v : Half)
  /-- `SET.WAVE_B` (R281). -/
  | setWaveB (v : Half)
  /-- `SET.WAVE_C` (R282). -/
  | setWaveC (v : Half)
  /-- `SET.DETUNE` (R283). -/
  | setDetune (v : Half)
  /-- `SET.AMPLITUDE` (R284). -/
  | setAmplitude (v : Half)
  /-- `SET.LFO_TARGET` (R285). -/
  | setLfoTarget (v : Half)
  /-- `SET.LFO_WAVE` (R286). -/
  | setLfoWave (v : Half)
  /-- `SET.LFO_FREQ` (R287). -/
  | setLfoFreq (v : Half)
  /-- `SET.ARP_EN` (R288). -/
  | setArpEn (v : Half)
  /-- `SET.BPM` (R289). -/
  | setBpm (v : Half)
  /-- `PRESET_FIELD`, OP 0x05: field index and raw value (R295). -/
  | presetField (a : BitVec 8) (v : Half)
  /-- `PRESET_COMMIT`, OP 0x06 (R296). -/
  | presetCommit
  /-- `PRESET_ABORT`, OP 0x07 (R297). -/
  | presetAbort
  /-- `TICK`, OP 0x08 (R236). -/
  | tick
  deriving DecidableEq, Repr

/-- Why a word selects no row of the opcode table (R89). Such a word is no error: the engine executes it as
`NOP` (R89, R96); only a partial word is no command at all (R66). -/
inductive Reserved where
  /-- `OP` in 0x09..0xFF. -/
  | opcode (op : BitVec 8)
  /-- `OP = CC` with an id outside 0, 1, 2, 3, 8, 10, 11, 12, 13, 14. -/
  | ccId (a : BitVec 8)
  /-- `OP = SET` with an id of 20 or more. -/
  | setId (a : BitVec 8)
  /-- Fewer than four bytes: a partial word is not a command (R66). -/
  | partialWord
  deriving DecidableEq, Repr

end Sys2Proof
end

