-- ==== Sys2Proof/WellFormed.lean ====
section
/-! DEFINITION. Which operands are in the range the spec gives them (spec/30_encoding.md R83, R87, R88, R92, R93).
The check stops nothing: R89 gives every word an outcome, and an operand out of range is clamped or ignored by its
command. It says which terms the assembler of R93 writes without the raw form `#0xhhhh`, for the operands that are
whole numbers (a fixed-point operand of R85, R86 may be any raw value and is not checked). -/

namespace Sys2Proof

/-- A note number is 0..127 (R83). -/
def WellFormed.note (a : BitVec 8) : Bool := decide (a.toNat ≤ 127)

/-- A velocity is 1..127 (R83). -/
def WellFormed.velocity (v : Half) : Bool := decide (1 ≤ v.toNat ∧ v.toNat ≤ 127)

/-- A controller value is 0..127 (R87). -/
def WellFormed.controller (v : Half) : Bool := decide (v.toNat ≤ 127)

/-- A code of `Waveform` or `LfoTarget` is 0..3 (R88). -/
def WellFormed.enumCode (v : Half) : Bool := decide (v.toNat ≤ 3)

/-- A Boolean operand is 0 or 1 (R88). -/
def WellFormed.boolCode (v : Half) : Bool := decide (v.toNat ≤ 1)

/-- A preset field index is 0..14 (R92). -/
def WellFormed.fieldIndex (a : BitVec 8) : Bool := decide (a.toNat ≤ 14)

/-- Every operand that is a whole number is in its range. -/
def Instr.wellFormed : Instr → Bool
  | .nop => true
  | .noteOn a v => WellFormed.note a && WellFormed.velocity v
  | .noteOff a => WellFormed.note a
  | .ccAttack v => WellFormed.controller v
  | .ccDecay v => WellFormed.controller v
  | .ccSustain v => WellFormed.controller v
  | .ccRelease v => WellFormed.controller v
  | .ccCutoff v => WellFormed.controller v
  | .ccWaveA v => WellFormed.controller v
  | .ccWaveB v => WellFormed.controller v
  | .ccWaveC v => WellFormed.controller v
  | .ccDetune v => WellFormed.controller v
  | .ccAmplitude v => WellFormed.controller v
  | .setAttack _ => true
  | .setDecay _ => true
  | .setSustain _ => true
  | .setRelease _ => true
  | .setFAttack _ => true
  | .setFDecay _ => true
  | .setFSustain _ => true
  | .setFRelease _ => true
  | .setCutoff _ => true
  | .setFEnvEn v => WellFormed.boolCode v
  | .setWaveA v => WellFormed.enumCode v
  | .setWaveB v => WellFormed.enumCode v
  | .setWaveC v => WellFormed.enumCode v
  | .setDetune _ => true
  | .setAmplitude _ => true
  | .setLfoTarget v => WellFormed.enumCode v
  | .setLfoWave v => WellFormed.enumCode v
  | .setLfoFreq _ => true
  | .setArpEn v => WellFormed.boolCode v
  | .setBpm _ => true
  | .presetField a _ => WellFormed.fieldIndex a
  | .presetCommit => true
  | .presetAbort => true
  | .tick => true

end Sys2Proof
end

