-- ==== Sys2Proof/Decode.lean ====
section
/-! DEFINITION. The decoder and the encoder of the 32-bit command word, the opcode table as data, and the decoder
under the host's fixed name (spec/30_encoding.md R80, R82, R89 to R93, R96; spec/opcode_table.json). -/

namespace Sys2Proof

/-- Bits 31:24, the opcode `OP` (R80). -/
def opField (w : Word) : BitVec 8 := w.extractLsb' 24 8

/-- Bits 23:16, the first operand `A` (R80). -/
def aField (w : Word) : BitVec 8 := w.extractLsb' 16 8

/-- Bits 15:0, the second operand `V` (R80). -/
def vField (w : Word) : Half := w.extractLsb' 0 16

/-- The word `op ++ a ++ v` of R80 and R93. -/
def wordOf (op a : BitVec 8) (v : Half) : Word := op ++ a ++ v

/-- The register a CC word selects by `A` (R91); any other id selects no row (R89). -/
def decodeCc (a : BitVec 8) (v : Half) : Except Reserved Instr :=
  match a.toNat with
  | 0 => .ok (.ccAttack v)
  | 1 => .ok (.ccDecay v)
  | 2 => .ok (.ccSustain v)
  | 3 => .ok (.ccRelease v)
  | 8 => .ok (.ccCutoff v)
  | 10 => .ok (.ccWaveA v)
  | 11 => .ok (.ccWaveB v)
  | 12 => .ok (.ccWaveC v)
  | 13 => .ok (.ccDetune v)
  | 14 => .ok (.ccAmplitude v)
  | _ => .error (.ccId a)

/-- The register a SET word selects by `A` (R91, R30); an id of 20 or more selects no row (R89). -/
def decodeSet (a : BitVec 8) (v : Half) : Except Reserved Instr :=
  match a.toNat with
  | 0 => .ok (.setAttack v)
  | 1 => .ok (.setDecay v)
  | 2 => .ok (.setSustain v)
  | 3 => .ok (.setRelease v)
  | 4 => .ok (.setFAttack v)
  | 5 => .ok (.setFDecay v)
  | 6 => .ok (.setFSustain v)
  | 7 => .ok (.setFRelease v)
  | 8 => .ok (.setCutoff v)
  | 9 => .ok (.setFEnvEn v)
  | 10 => .ok (.setWaveA v)
  | 11 => .ok (.setWaveB v)
  | 12 => .ok (.setWaveC v)
  | 13 => .ok (.setDetune v)
  | 14 => .ok (.setAmplitude v)
  | 15 => .ok (.setLfoTarget v)
  | 16 => .ok (.setLfoWave v)
  | 17 => .ok (.setLfoFreq v)
  | 18 => .ok (.setArpEn v)
  | 19 => .ok (.setBpm v)
  | _ => .error (.setId a)

/-- The decoder: `OP` alone selects the command, and for CC and SET the field `A` selects the register (R80, R82).
A field the command does not use is ignored (R90). -/
def decode (w : Word) : Except Reserved Instr :=
  match (opField w).toNat with
  | 0 => .ok .nop
  | 1 => .ok (.noteOn (aField w) (vField w))
  | 2 => .ok (.noteOff (aField w))
  | 3 => decodeCc (aField w) (vField w)
  | 4 => decodeSet (aField w) (vField w)
  | 5 => .ok (.presetField (aField w) (vField w))
  | 6 => .ok .presetCommit
  | 7 => .ok .presetAbort
  | 8 => .ok .tick
  | _ => .error (.opcode (opField w))

/-- The command the engine executes for a word: a word that selects no row executes as `NOP` (R89, R96). -/
def decodeOrNop (w : Word) : Instr :=
  match decode w with
  | .ok i => i
  | .error _ => .nop

/-- The word a transport outside the engine serialises as these four bytes, least-significant byte first (R65). -/
def wordOfBytes (b0 b1 b2 b3 : Byte) : Word := b3 ++ b2 ++ b1 ++ b0

/-- The four bytes of a word, least-significant byte first (R65). -/
def bytesOfWord (w : Word) : List Byte :=
  [w.extractLsb' 0 8, w.extractLsb' 8 8, w.extractLsb' 16 8, w.extractLsb' 24 8]

/-- The sample a transport outside the engine serialises as these two bytes, least-significant byte first (R65). -/
def sampleOfBytes (b0 b1 : Byte) : Sample := b1 ++ b0

/-- The two bytes of a sample, least-significant byte first (R65). -/
def bytesOfSample (y : Sample) : List Byte := [y.extractLsb' 0 8, y.extractLsb' 8 8]

/-- The byte stream of samples in the order they leave the port (R65, R74). -/
def bytesOfSamples (ys : List Sample) : List Byte := ys.flatMap bytesOfSample

/-- The decoder on a byte stream, total: one command and the bytes after it. Fewer than four bytes are a partial
word, which is not a command (R65, R66). -/
def decodeBytes : List Byte → Except Reserved (Instr × List Byte)
  | b0 :: b1 :: b2 :: b3 :: rest =>
    match decode (wordOfBytes b0 b1 b2 b3) with
    | .ok i => .ok (i, rest)
    | .error e => .error e
  | _ => .error .partialWord

/-- The host's fixed name for the decoder on one table word. Every command is 32 bits long (R80, R95), so a longer
instruction is none; a shorter one has zeros above its bits. -/
def decodeTableWord (nbits w : Nat) : Option Instr :=
  if nbits ≤ 32 then
    match decode (BitVec.ofNat 32 (w % 2 ^ nbits)) with
    | .ok i => some i
    | .error _ => none
  else none

/-- The encoder: the words of R93, with the fields a command does not use written as 0 (R90). -/
def encode : Instr → Word
  | .nop => wordOf 0x00#8 0#8 0#16
  | .noteOn a v => wordOf 0x01#8 a v
  | .noteOff a => wordOf 0x02#8 a 0#16
  | .ccAttack v => wordOf 0x03#8 0x00#8 v
  | .ccDecay v => wordOf 0x03#8 0x01#8 v
  | .ccSustain v => wordOf 0x03#8 0x02#8 v
  | .ccRelease v => wordOf 0x03#8 0x03#8 v
  | .ccCutoff v => wordOf 0x03#8 0x08#8 v
  | .ccWaveA v => wordOf 0x03#8 0x0A#8 v
  | .ccWaveB v => wordOf 0x03#8 0x0B#8 v
  | .ccWaveC v => wordOf 0x03#8 0x0C#8 v
  | .ccDetune v => wordOf 0x03#8 0x0D#8 v
  | .ccAmplitude v => wordOf 0x03#8 0x0E#8 v
  | .setAttack v => wordOf 0x04#8 0x00#8 v
  | .setDecay v => wordOf 0x04#8 0x01#8 v
  | .setSustain v => wordOf 0x04#8 0x02#8 v
  | .setRelease v => wordOf 0x04#8 0x03#8 v
  | .setFAttack v => wordOf 0x04#8 0x04#8 v
  | .setFDecay v => wordOf 0x04#8 0x05#8 v
  | .setFSustain v => wordOf 0x04#8 0x06#8 v
  | .setFRelease v => wordOf 0x04#8 0x07#8 v
  | .setCutoff v => wordOf 0x04#8 0x08#8 v
  | .setFEnvEn v => wordOf 0x04#8 0x09#8 v
  | .setWaveA v => wordOf 0x04#8 0x0A#8 v
  | .setWaveB v => wordOf 0x04#8 0x0B#8 v
  | .setWaveC v => wordOf 0x04#8 0x0C#8 v
  | .setDetune v => wordOf 0x04#8 0x0D#8 v
  | .setAmplitude v => wordOf 0x04#8 0x0E#8 v
  | .setLfoTarget v => wordOf 0x04#8 0x0F#8 v
  | .setLfoWave v => wordOf 0x04#8 0x10#8 v
  | .setLfoFreq v => wordOf 0x04#8 0x11#8 v
  | .setArpEn v => wordOf 0x04#8 0x12#8 v
  | .setBpm v => wordOf 0x04#8 0x13#8 v
  | .presetField a v => wordOf 0x05#8 a v
  | .presetCommit => wordOf 0x06#8 0#8 0#16
  | .presetAbort => wordOf 0x07#8 0#8 0#16
  | .tick => wordOf 0x08#8 0#8 0#16

/-- The bits of a word its command reads (R82's "uses `A`" and "uses `V`"); the others are ignored (R90). -/
def Instr.usedMask : Instr → Word
  | .nop => 0xFF000000#32
  | .noteOn _ _ => 0xFFFFFFFF#32
  | .noteOff _ => 0xFFFF0000#32
  | .ccAttack _ => 0xFFFFFFFF#32
  | .ccDecay _ => 0xFFFFFFFF#32
  | .ccSustain _ => 0xFFFFFFFF#32
  | .ccRelease _ => 0xFFFFFFFF#32
  | .ccCutoff _ => 0xFFFFFFFF#32
  | .ccWaveA _ => 0xFFFFFFFF#32
  | .ccWaveB _ => 0xFFFFFFFF#32
  | .ccWaveC _ => 0xFFFFFFFF#32
  | .ccDetune _ => 0xFFFFFFFF#32
  | .ccAmplitude _ => 0xFFFFFFFF#32
  | .setAttack _ => 0xFFFFFFFF#32
  | .setDecay _ => 0xFFFFFFFF#32
  | .setSustain _ => 0xFFFFFFFF#32
  | .setRelease _ => 0xFFFFFFFF#32
  | .setFAttack _ => 0xFFFFFFFF#32
  | .setFDecay _ => 0xFFFFFFFF#32
  | .setFSustain _ => 0xFFFFFFFF#32
  | .setFRelease _ => 0xFFFFFFFF#32
  | .setCutoff _ => 0xFFFFFFFF#32
  | .setFEnvEn _ => 0xFFFFFFFF#32
  | .setWaveA _ => 0xFFFFFFFF#32
  | .setWaveB _ => 0xFFFFFFFF#32
  | .setWaveC _ => 0xFFFFFFFF#32
  | .setDetune _ => 0xFFFFFFFF#32
  | .setAmplitude _ => 0xFFFFFFFF#32
  | .setLfoTarget _ => 0xFFFFFFFF#32
  | .setLfoWave _ => 0xFFFFFFFF#32
  | .setLfoFreq _ => 0xFFFFFFFF#32
  | .setArpEn _ => 0xFFFFFFFF#32
  | .setBpm _ => 0xFFFFFFFF#32
  | .presetField _ _ => 0xFFFFFFFF#32
  | .presetCommit => 0xFF000000#32
  | .presetAbort => 0xFF000000#32
  | .tick => 0xFF000000#32

/-- One row of spec/opcode_table.json: a word `w` selects the row when `w AND mask = match` (R96). -/
structure Row where
  mnemonic : String
  pattern : Word
  mask : Word
  deriving DecidableEq, Repr

/-- `w` selects the row (R96). -/
def Row.selects (r : Row) (w : Word) : Bool := w &&& r.mask == r.pattern

/-- A row that depends on `OP` only (R96). -/
def opRow (mnemonic : String) (op : BitVec 8) : Row := ⟨mnemonic, wordOf op 0#8 0#16, 0xFF000000#32⟩

/-- A CC or SET row, which depends on `OP` and `A` (R96). -/
def regRow (mnemonic : String) (op a : BitVec 8) : Row := ⟨mnemonic, wordOf op a 0#16, 0xFFFF0000#32⟩

/-- The row of spec/opcode_table.json a command stands for. -/
def Instr.row : Instr → Row
  | .nop => opRow "NOP" 0x00#8
  | .noteOn _ _ => opRow "NOTE_ON" 0x01#8
  | .noteOff _ => opRow "NOTE_OFF" 0x02#8
  | .ccAttack _ => regRow "CC.ATTACK" 0x03#8 0x00#8
  | .ccDecay _ => regRow "CC.DECAY" 0x03#8 0x01#8
  | .ccSustain _ => regRow "CC.SUSTAIN" 0x03#8 0x02#8
  | .ccRelease _ => regRow "CC.RELEASE" 0x03#8 0x03#8
  | .ccCutoff _ => regRow "CC.CUTOFF" 0x03#8 0x08#8
  | .ccWaveA _ => regRow "CC.WAVE_A" 0x03#8 0x0A#8
  | .ccWaveB _ => regRow "CC.WAVE_B" 0x03#8 0x0B#8
  | .ccWaveC _ => regRow "CC.WAVE_C" 0x03#8 0x0C#8
  | .ccDetune _ => regRow "CC.DETUNE" 0x03#8 0x0D#8
  | .ccAmplitude _ => regRow "CC.AMPLITUDE" 0x03#8 0x0E#8
  | .setAttack _ => regRow "SET.ATTACK" 0x04#8 0x00#8
  | .setDecay _ => regRow "SET.DECAY" 0x04#8 0x01#8
  | .setSustain _ => regRow "SET.SUSTAIN" 0x04#8 0x02#8
  | .setRelease _ => regRow "SET.RELEASE" 0x04#8 0x03#8
  | .setFAttack _ => regRow "SET.F_ATTACK" 0x04#8 0x04#8
  | .setFDecay _ => regRow "SET.F_DECAY" 0x04#8 0x05#8
  | .setFSustain _ => regRow "SET.F_SUSTAIN" 0x04#8 0x06#8
  | .setFRelease _ => regRow "SET.F_RELEASE" 0x04#8 0x07#8
  | .setCutoff _ => regRow "SET.CUTOFF" 0x04#8 0x08#8
  | .setFEnvEn _ => regRow "SET.F_ENV_EN" 0x04#8 0x09#8
  | .setWaveA _ => regRow "SET.WAVE_A" 0x04#8 0x0A#8
  | .setWaveB _ => regRow "SET.WAVE_B" 0x04#8 0x0B#8
  | .setWaveC _ => regRow "SET.WAVE_C" 0x04#8 0x0C#8
  | .setDetune _ => regRow "SET.DETUNE" 0x04#8 0x0D#8
  | .setAmplitude _ => regRow "SET.AMPLITUDE" 0x04#8 0x0E#8
  | .setLfoTarget _ => regRow "SET.LFO_TARGET" 0x04#8 0x0F#8
  | .setLfoWave _ => regRow "SET.LFO_WAVE" 0x04#8 0x10#8
  | .setLfoFreq _ => regRow "SET.LFO_FREQ" 0x04#8 0x11#8
  | .setArpEn _ => regRow "SET.ARP_EN" 0x04#8 0x12#8
  | .setBpm _ => regRow "SET.BPM" 0x04#8 0x13#8
  | .presetField _ _ => opRow "PRESET_FIELD" 0x05#8
  | .presetCommit => opRow "PRESET_COMMIT" 0x06#8
  | .presetAbort => opRow "PRESET_ABORT" 0x07#8
  | .tick => opRow "TICK" 0x08#8

/-- The CC rows of the opcode table, with their ids (R91). -/
def ccRows : List Row :=
  [regRow "CC.ATTACK" 0x03#8 0x00#8,
   regRow "CC.DECAY" 0x03#8 0x01#8,
   regRow "CC.SUSTAIN" 0x03#8 0x02#8,
   regRow "CC.RELEASE" 0x03#8 0x03#8,
   regRow "CC.CUTOFF" 0x03#8 0x08#8,
   regRow "CC.WAVE_A" 0x03#8 0x0A#8,
   regRow "CC.WAVE_B" 0x03#8 0x0B#8,
   regRow "CC.WAVE_C" 0x03#8 0x0C#8,
   regRow "CC.DETUNE" 0x03#8 0x0D#8,
   regRow "CC.AMPLITUDE" 0x03#8 0x0E#8]

/-- The SET rows of the opcode table, ids 0 to 19 in order (R91, R30). -/
def setRows : List Row :=
  [regRow "SET.ATTACK" 0x04#8 0x00#8,
   regRow "SET.DECAY" 0x04#8 0x01#8,
   regRow "SET.SUSTAIN" 0x04#8 0x02#8,
   regRow "SET.RELEASE" 0x04#8 0x03#8,
   regRow "SET.F_ATTACK" 0x04#8 0x04#8,
   regRow "SET.F_DECAY" 0x04#8 0x05#8,
   regRow "SET.F_SUSTAIN" 0x04#8 0x06#8,
   regRow "SET.F_RELEASE" 0x04#8 0x07#8,
   regRow "SET.CUTOFF" 0x04#8 0x08#8,
   regRow "SET.F_ENV_EN" 0x04#8 0x09#8,
   regRow "SET.WAVE_A" 0x04#8 0x0A#8,
   regRow "SET.WAVE_B" 0x04#8 0x0B#8,
   regRow "SET.WAVE_C" 0x04#8 0x0C#8,
   regRow "SET.DETUNE" 0x04#8 0x0D#8,
   regRow "SET.AMPLITUDE" 0x04#8 0x0E#8,
   regRow "SET.LFO_TARGET" 0x04#8 0x0F#8,
   regRow "SET.LFO_WAVE" 0x04#8 0x10#8,
   regRow "SET.LFO_FREQ" 0x04#8 0x11#8,
   regRow "SET.ARP_EN" 0x04#8 0x12#8,
   regRow "SET.BPM" 0x04#8 0x13#8]

/-- The opcode table: the 37 rows of spec/opcode_table.json in its order (R82, R96). -/
def opcodeTable : List Row :=
  [opRow "NOP" 0x00#8, opRow "NOTE_ON" 0x01#8, opRow "NOTE_OFF" 0x02#8] ++ ccRows ++ setRows ++
    [opRow "PRESET_FIELD" 0x05#8, opRow "PRESET_COMMIT" 0x06#8, opRow "PRESET_ABORT" 0x07#8, opRow "TICK" 0x08#8]

end Sys2Proof
end

