-- ==== Sys2Proof/Machine/Registers.lean ====
section
/-! DEFINITION. The records the state of the engine is made of (spec/10_state.md R21 to R36), for any type `R` of the
quantities SYN calls real (`Num`, spec/00_scope.md R10) and any size `n` of the voice pool (`VOICES`, R9). Plain data
throughout. -/

namespace Sys2Proof.Machine

/-- `EnvState` (R21). -/
inductive EnvState where
  | idle | attack | decay | sustain | release
  deriving DecidableEq, Repr

/-- `Waveform`, a closed set (R21, R131). -/
inductive Waveform where
  | sine | square | triangle | sawtooth
  deriving DecidableEq, Repr

/-- `LfoTarget` (R21). -/
inductive LfoTarget where
  | off | cutoff | detune | amplitude
  deriving DecidableEq, Repr

/-- An `Oscillator` record: frequency in Hz and phase in `[0,1)` (R22). -/
structure Oscillator (R : Type) where
  freq : R
  phase : R
  deriving DecidableEq, Repr

/-- An `Envelope` record: state and output in `[0,1]` (R23). -/
structure Envelope (R : Type) where
  state : EnvState
  out : R
  deriving DecidableEq, Repr

/-- A `Voice` record (R24). `note` is −1 for an unassigned voice, else 0..127. -/
structure Voice (R : Type) where
  note : Int
  pressed : Bool
  vel : R
  /-- Slot A, the primary oscillator. -/
  osc0 : Oscillator R
  /-- Slot B, the second oscillator. -/
  osc1 : Oscillator R
  /-- Slot C, the third oscillator. -/
  osc2 : Oscillator R
  env : Envelope R
  deriving DecidableEq, Repr

/-- The voice pool `V[0..VOICES-1]`, an ordered array of fixed size (R25). -/
abbrev Pool (R : Type) (n : Nat) := Vector (Voice R) n

/-- A block of envelope parameters `(a, d, s, r)`: `ADSR` or `F_ADSR` (R33). -/
structure Adsr (R : Type) where
  a : R
  d : R
  s : R
  r : R
  deriving DecidableEq, Repr

/-- The parameter registers `P`, ids 0 to 19 in order (R30). -/
structure Params (R : Type) where
  attack : R
  decay : R
  sustain : R
  release : R
  fAttack : R
  fDecay : R
  fSustain : R
  fRelease : R
  cutoff : R
  fEnvEn : Bool
  waveA : Waveform
  waveB : Waveform
  waveC : Waveform
  detune : R
  amplitude : R
  lfoTarget : LfoTarget
  lfoWave : Waveform
  lfoFreq : R
  arpEn : Bool
  bpm : R
  deriving DecidableEq, Repr

/-- One register write: the register and the value, already made legal (R254). One constructor per register of
R30, in the order of the ids. -/
inductive ParamWrite (R : Type) where
  | attack (x : R)
  | decay (x : R)
  | sustain (x : R)
  | release (x : R)
  | fAttack (x : R)
  | fDecay (x : R)
  | fSustain (x : R)
  | fRelease (x : R)
  | cutoff (x : R)
  | fEnvEn (b : Bool)
  | waveA (w : Waveform)
  | waveB (w : Waveform)
  | waveC (w : Waveform)
  | detune (x : R)
  | amplitude (x : R)
  | lfoTarget (t : LfoTarget)
  | lfoWave (w : Waveform)
  | lfoFreq (x : R)
  | arpEn (b : Bool)
  | bpm (x : R)
  deriving DecidableEq, Repr

/-- The filter's sample memory and cutoff shadows, `FLT` (R34). -/
structure Filter (R : Type) where
  envCutoff : R
  lfoCutoff : R
  prevOut : R
  prevIn : R
  deriving DecidableEq, Repr

/-- The LFO's phase and its two own shadows, `LFO` (R35). -/
structure Lfo (R : Type) where
  phase : R
  lfoDetune : R
  lfoAmp : R
  deriving DecidableEq, Repr

/-- The arpeggiator, `ARP` (R36). The index is a slot number (R216). -/
structure Arp (R : Type) (n : Nat) where
  index : Fin n
  phase : R
  deriving DecidableEq, Repr

end Sys2Proof.Machine
end

