-- ==== Sys2Proof/Config.lean ====
section
/-! DEFINITION. The implementation parameters of spec/00_scope.md R9 and the numeric domain `NUM` of R10.

`NumOps R` is `NUM`: a type `R` and the total functions R10 lists. `Config R n` is the record of R9, which every
operation of the model takes as its argument `c`; its index `n` is `VOICES`, the length of the pool. The values of the
machine itself, `Machine.engine`, are in Sys2Proof/Machine/Numeric.lean; what a claim about every configuration may
assume is in Sys2Proof/Safety.lean. -/

namespace Sys2Proof

/-- The polyphony limit of the machine, "a hard design invariant" (R8, R9; D4). -/
abbrev VOICES : Nat := 6

/-- Oscillators per voice, "fixed by source" (R9). -/
abbrev OSCS : Nat := 3

/-- Fields of a preset record: the parameter ids 0 to 14 (R37, R92). -/
abbrev FIELDS : Nat := 15

/-- `ENV_TRIGGER_LEVEL` of R9: the output `env_trigger` writes (R118). -/
def ENV_TRIGGER_LEVEL : ℚ := 1 / 1000

/-- `ENV_FLOOR` of R9: the Release threshold (R116). -/
def ENV_FLOOR : ℚ := 1 / 1000

/-- `DETUNE_HZ` of R9: Hz of offset per unit of detune (R173). -/
def DETUNE_HZ : ℚ := 5

/-- `CUTOFF_DIV` of R9: the divisor in the filter's cutoff frequency (R181). -/
def CUTOFF_DIV : ℚ := 8

/-- `NUM`: the realisation of real arithmetic on the type `R` (R10). Nothing is assumed of the functions here: the
ideal reals, exact rationals, a fixed-point format with a waveform ROM and a floating-point format are all such
records. -/
structure NumOps (R : Type) where
  /-- The value of a rational number in the type. -/
  ofRat : ℚ → R
  add : R → R → R
  sub : R → R → R
  mul : R → R → R
  div : R → R → R
  lt : R → R → Bool
  le : R → R → Bool
  eq : R → R → Bool
  abs : R → R
  /-- The greatest integer not above the value (R13). -/
  floor : R → Int
  /-- The integer part toward zero (R13). -/
  trunc : R → Int
  /-- `SIN2PI(p)`, for sin(2πp) (R133). -/
  sin2pi : R → R
  /-- `POW2(x)`, for 2^x (R170). -/
  pow2 : R → R
  /-- `SQRT(x)`, for the square root of x (R230). -/
  sqrt : R → R
  /-- `PI`, for π (R181). -/
  pi : R

/-- The parameter record of R9, for the type `R` of `NUM` and the pool size `n` (`VOICES`). -/
structure Config (R : Type) (n : Nat) where
  /-- `NUM` (R10). -/
  num : NumOps R
  /-- `RATE`, samples per second (R9). -/
  rate : Nat
  /-- `BUFFER`, samples per output buffer; read only by the pseudo-instruction of R94. -/
  buffer : Nat
  /-- `A4_REFERENCE`, the note number that maps to 440 Hz (R171). -/
  a4Reference : Int
  /-- `DECAY_TARGET0(d, s, r)`, the Decay target when sustain is 0 (R114, D7). -/
  decayTarget0 : R → R → R → R
  /-- `QUANT_ROUND`, the rounding of the scaled sample to an integer (R233, D35). -/
  quantRound : R → Int
  /-- `FULL_SCALE` (R233). -/
  fullScale : Nat
  /-- `RESET_PARAMS`, the parameter registers after reset (R342, D36). -/
  resetParams : Machine.Params R

/-- `VOICES` of R9 as a field of the record: the size of the pool. -/
def Config.voices {R : Type} {n : Nat} (_c : Config R n) : Nat := n

/-- `F(m)`, the note-to-frequency function (R170), a pure function of the note number and the configuration. -/
def Config.noteFreq {R : Type} {n : Nat} (c : Config R n) (m : Int) : R :=
  c.num.mul (c.num.ofRat 440) (c.num.pow2 (c.num.ofRat (((m : ℚ) - (c.a4Reference : ℚ)) / 12)))

end Sys2Proof
end

