-- ==== Sys2Proof/Machine/Numeric.lean ====
section
/-! DEFINITION. The primitives of spec/00_scope.md R13 over any `NUM`, exact arithmetic on an ordered field, the
realisation of `NUM` the machine runs with (R10; spec/93_implementation_defined.md U1), and the machine's configuration
`engine` (R9).

The machine's field operations are exact, on the rationals. Its `SIN2PI`, `POW2`, `SQRT` and `PI` are the functions of
R10 to within 2^-60 or better, exact at the points where U1 asks for it (assumption log 1). -/

namespace Sys2Proof.Machine

/-- `clamp(x, lo, hi)` (R13). -/
def clamp {R : Type} (N : NumOps R) (x lo hi : R) : R := if N.lt x lo then lo else if N.lt hi x then hi else x

/-- `frac(x) = x - floor(x)`, "wrap modulo 1" (R13). -/
def frac {R : Type} (N : NumOps R) (x : R) : R := N.sub x (N.ofRat (N.floor x))

/-- The integer part toward zero, in an ordered field (R13). -/
def truncate {K : Type} [Field K] [LinearOrder K] [FloorRing K] (x : K) : Int := if 0 ≤ x then ⌊x⌋ else ⌈x⌉

/-- Exact arithmetic on an ordered field, with the four functions that may leave it as arguments (R10). On the reals,
with the real functions, it is the ideal `NUM`; the machine's is the one on the rationals. -/
def exactNum {K : Type} [Field K] [LinearOrder K] [FloorRing K] (sin2pi pow2 sqrt : K → K) (pi : K) : NumOps K where
  ofRat q := (q : K)
  add x y := x + y
  sub x y := x - y
  mul x y := x * y
  div x y := x / y
  lt x y := decide (x < y)
  le x y := decide (x ≤ y)
  eq x y := decide (x = y)
  abs x := |x|
  floor x := ⌊x⌋
  trunc x := truncate x
  sin2pi := sin2pi
  pow2 := pow2
  sqrt := sqrt
  pi := pi

/-- The spacing of the results of `SIN2PI`, `POW2` on `[0,1)`, and `SQRT` is `1/grid`. -/
def grid : Nat := 2 ^ 64

/-- Rounds down to a multiple of `1/grid`. -/
def onGrid (x : ℚ) : ℚ := (⌊x * grid⌋ : ℚ) / grid

/-- `PI` to twenty decimals (R10). -/
def piValue : ℚ := 314159265358979323846 / 10 ^ 20

/-- The first `n` terms of the power series of the sine. -/
def sinSeries (t : ℚ) : Nat → ℚ
  | 0 => 0
  | n + 1 => sinSeries t n + (-1) ^ n * t ^ (2 * n + 1) / (Nat.factorial (2 * n + 1) : ℚ)

/-- The sine of `r` quarter turns, `0 ≤ r ≤ 1`: exact at 1 and at 1/3 (R133), else the series on the grid. -/
def quarterSine (r : ℚ) : ℚ :=
  if r = 1 then 1
  else if 3 * r = 1 then 1 / 2
  else max 0 (min 1 (onGrid (sinSeries (piValue / 2 * r) 14)))

/-- `SIN2PI(p) = sin(2πp)` (R133), reduced to the first quarter of the period. -/
@[irreducible] def sin2pi (p : ℚ) : ℚ :=
  let q := 4 * (p - ⌊p⌋)
  if q ≤ 1 then quarterSine q
  else if q ≤ 2 then quarterSine (2 - q)
  else if q ≤ 3 then -quarterSine (q - 2)
  else -quarterSine (4 - q)

/-- The integer `b`-th root of `n` by binary digits: the greatest `r + x`, `x < 2^k`, whose `b`-th power is at most
`n`, for an `r` that is a multiple of `2^k`. -/
def rootDigits (b n : Nat) : Nat → Nat → Nat
  | 0, r => r
  | k + 1, r => rootDigits b n k (if (r + 2 ^ k) ^ b ≤ n then r + 2 ^ k else r)

/-- `POW2(x) = 2^x` (R170): the power of two of `floor(x)`, exact, times the root `2^(u/v)` of `x - floor(x) = u/v` on the
grid, exact at 0. -/
@[irreducible] def pow2 (x : ℚ) : ℚ :=
  let f := x - ⌊x⌋
  let n := 2 ^ f.num.toNat * grid ^ f.den
  (2 : ℚ) ^ ⌊x⌋ * ((rootDigits f.den n (n.log2 / f.den + 1) 0 : ℚ) / grid)

/-- `SQRT(x)` of R230 on the grid, exact where the root is on the grid. -/
@[irreducible] def sqrt (x : ℚ) : ℚ :=
  let n := ⌊x * (grid * grid : ℚ)⌋.toNat
  (rootDigits 2 n (n.log2 + 1) 0 : ℚ) / grid

/-- `DECAY_TARGET0` at its default: the value of the release parameter used as a level (R114, D7). -/
def releaseAsTarget {R : Type} (_d _s r : R) : R := r

/-- `RESET_PARAMS` at its default: the parameter registers at reset (R342). -/
def Params.reset {R : Type} (N : NumOps R) : Params R where
  attack := N.ofRat 0
  decay := N.ofRat 0
  sustain := N.ofRat 1
  release := N.ofRat 0
  fAttack := N.ofRat 0
  fDecay := N.ofRat 0
  fSustain := N.ofRat 1
  fRelease := N.ofRat 0
  cutoff := N.ofRat 1
  fEnvEn := false
  waveA := .sine
  waveB := .sine
  waveC := .sine
  detune := N.ofRat 0
  amplitude := N.ofRat 1
  lfoTarget := .off
  lfoWave := .sine
  lfoFreq := N.ofRat 0
  arpEn := false
  bpm := N.ofRat 120

/-- The record of R9 with the spec's default in every field, for a realisation `N` of `NUM` and any pool size. -/
def defaultConfig {R : Type} {n : Nat} (N : NumOps R) : Config R n where
  num := N
  rate := 44100
  buffer := 512
  a4Reference := 57
  decayTarget0 := releaseAsTarget
  quantRound := N.trunc
  fullScale := 32767
  resetParams := .reset N

/-- The machine's realisation of `NUM` (assumption log 1). -/
def engineNum : NumOps ℚ := exactNum sin2pi pow2 sqrt piValue

/-- The machine's configuration: the defaults of R9, with six voices. -/
def engine : Config ℚ VOICES := defaultConfig engineNum

end Sys2Proof.Machine
end

