-- ==== Sys2Proof/Machine/State.lean ====
section
/-! DEFINITION. The state of the engine (spec/10_state.md R20 to R40), its ports (spec/30_encoding.md R81), its reset
values (spec/70_reset_and_hazards.md R341, R342), and the reasons a step can stop. Plain data throughout. -/

namespace Sys2Proof.Machine

variable {R : Type} {n : Nat}

/-- The `Synth` aggregate of R20 and its ports: the whole state, for a `NUM` on the type `R` and a pool of `n` voices. -/
structure Synth (R : Type) (n : Nat) where
  /-- The voice register file (R24, R25). -/
  pool : Pool R n
  /-- The parameter registers (R30). -/
  params : Params R
  /-- `FLT` (R34). -/
  flt : Filter R
  /-- `FENV`, the filter's envelope generator (R34). -/
  fenv : Envelope R
  /-- `LFO` (R35). -/
  lfo : Lfo R
  /-- `ARP` (R36). -/
  arp : Arp R n
  /-- `STG[0..14]`, the raw staged preset fields (R37). -/
  stg : Vector Half FIELDS
  /-- `STGV[0..14]`, whether each field was staged (R37). -/
  stgv : Vector Bool FIELDS
  /-- `PRESET_ERR`, the one flag (R29). -/
  presetErr : Bool
  /-- The input `rst` (R81, R340). -/
  rst : Bool
  /-- The command port: the words the host offers, the next one first; `cmd_valid` is that one is there (R81). -/
  cmdIn : List Word
  /-- The input `smp_ready` (R81). -/
  smpReady : Bool
  /-- The sample port: `smp_valid` with `smp_data`, a sample emitted and not yet transferred (R84). -/
  smpOut : Option Sample
  /-- The samples the sink has taken, oldest first: the model's own record of the transfers (assumption log 6). -/
  sink : List Sample
  deriving DecidableEq, Repr

/-- The state of the machine: the aggregate over the rationals, with six voices. -/
structure State extends Synth ℚ VOICES
  deriving DecidableEq, Repr

/-- Why a step can stop the machine: for no reason. "The engine raises no exception" (R310), so this type is empty,
which is safe: no claim about a fault can be anything but vacuous. -/
inductive Fault where
  deriving DecidableEq, Repr

/-- Why a step can decline an instruction. Every command word has an outcome (R310), so no meaning raises this. -/
inductive Refusal where
  /-- Raised only by an arm of `exec` whose instruction has no meaning yet; there is none. Safe. -/
  | notModelled (mnemonic : String)
  deriving DecidableEq, Repr

/-- An oscillator at reset (R24; decided, D36). -/
def Oscillator.reset (N : NumOps R) : Oscillator R := { freq := N.ofRat 0, phase := N.ofRat 0 }

/-- An envelope at reset (R24, R341). -/
def Envelope.reset (N : NumOps R) : Envelope R := { state := .idle, out := N.ofRat 0 }

/-- A voice at reset (R24, R341). -/
def Voice.reset (N : NumOps R) : Voice R :=
  { note := -1, pressed := false, vel := N.ofRat 0, osc0 := .reset N, osc1 := .reset N, osc2 := .reset N, env := .reset N }

/-- The state right after reset (R340, R341), with the parameter registers the configuration gives (R342). The ports
are quiet: `rst` released, no command offered, the sink ready, no sample offered. -/
def Synth.reset [NeZero n] (c : Config R n) : Synth R n where
  pool := Vector.replicate n (.reset c.num)
  params := c.resetParams
  flt := { envCutoff := c.num.ofRat 0, lfoCutoff := c.num.ofRat 0, prevOut := c.num.ofRat 0, prevIn := c.num.ofRat 0 }
  fenv := .reset c.num
  lfo := { phase := c.num.ofRat 0, lfoDetune := c.num.ofRat 0, lfoAmp := c.num.ofRat 0 }
  arp := { index := 0, phase := c.num.ofRat 0 }
  stg := Vector.replicate FIELDS 0
  stgv := Vector.replicate FIELDS false
  presetErr := false
  rst := false
  cmdIn := []
  smpReady := true
  smpOut := none
  sink := []

/-- The machine right after reset (R340 to R342). -/
def State.reset : State := ⟨.reset engine⟩

/-- Replaces `pool`. -/
def Synth.setPool (s : Synth R n) (p : Pool R n) : Synth R n := { s with pool := p }

/-- Replaces `params`. -/
def Synth.setParams (s : Synth R n) (p : Params R) : Synth R n := { s with params := p }

/-- Replaces `flt`. -/
def Synth.setFlt (s : Synth R n) (f : Filter R) : Synth R n := { s with flt := f }

/-- Replaces `fenv`. -/
def Synth.setFenv (s : Synth R n) (e : Envelope R) : Synth R n := { s with fenv := e }

/-- Replaces `lfo`. -/
def Synth.setLfo (s : Synth R n) (l : Lfo R) : Synth R n := { s with lfo := l }

/-- Replaces `arp`. -/
def Synth.setArp (s : Synth R n) (a : Arp R n) : Synth R n := { s with arp := a }

/-- Replaces `stg`. -/
def Synth.setStg (s : Synth R n) (v : Vector Half FIELDS) : Synth R n := { s with stg := v }

/-- Replaces `stgv`. -/
def Synth.setStgv (s : Synth R n) (v : Vector Bool FIELDS) : Synth R n := { s with stgv := v }

/-- Replaces `presetErr`. -/
def Synth.setPresetErr (s : Synth R n) (b : Bool) : Synth R n := { s with presetErr := b }

/-- Replaces `cmdIn`. -/
def Synth.setCmdIn (s : Synth R n) (ws : List Word) : Synth R n := { s with cmdIn := ws }

/-- Replaces `smpOut`. -/
def Synth.setSmpOut (s : Synth R n) (y : Option Sample) : Synth R n := { s with smpOut := y }

/-- Replaces `sink`. -/
def Synth.setSink (s : Synth R n) (ys : List Sample) : Synth R n := { s with sink := ys }

end Sys2Proof.Machine
end

