-- ==== Sys2Proof/Machine/Operands.lean ====
section
/-! DEFINITION. Operand assembly (spec/30_encoding.md R83, R85 to R88), the clamps into the legal ranges
(spec/48_parameters.md R252, R253) and the numeric codes of the enumerations (spec/10_state.md R21). -/

namespace Sys2Proof.Machine

variable {R : Type}

/-- The code of an envelope state (R21). -/
def EnvState.code : EnvState → BitVec 3
  | .idle => 0
  | .attack => 1
  | .decay => 2
  | .sustain => 3
  | .release => 4

/-- The code of a waveform (R21). -/
def Waveform.code : Waveform → BitVec 2
  | .sine => 0
  | .square => 1
  | .triangle => 2
  | .sawtooth => 3

/-- The code of an LFO target (R21). -/
def LfoTarget.code : LfoTarget → BitVec 2
  | .off => 0
  | .cutoff => 1
  | .detune => 2
  | .amplitude => 3

/-- The waveform of code `min(n, 3)` (R21, R88). -/
def waveOfCode : Nat → Waveform
  | 0 => .sine
  | 1 => .square
  | 2 => .triangle
  | _ => .sawtooth

/-- The LFO target of code `min(n, 3)` (R21, R88). -/
def targetOfCode : Nat → LfoTarget
  | 0 => .off
  | 1 => .cutoff
  | 2 => .detune
  | _ => .amplitude

/-- The Boolean of code `min(n, 1)`: 0 stays 0, anything else is 1 (R88). -/
def boolOfCode : Nat → Bool
  | 0 => false
  | _ => true

/-- `note = zext_8(A)`, unless it is above 127 (R83). -/
def noteOperand (a : BitVec 8) : Option Int :=
  if a.toNat ≤ 127 then some (a.toNat : Int) else none

/-- `velocity = clamp(zext_16(V), 1, 127)` (R83). -/
def velocityOperand (v : Half) : Nat := max 1 (min v.toNat 127)

/-- The Q4.12 operand `sext_16(V)/4096`, which every `NUM` represents exactly (R85, U1). -/
def q412 (N : NumOps R) (v : Half) : R := N.ofRat ((v.toInt : ℚ) / 4096)

/-- The UQ8.8 operand `zext_16(V)/256`, in Hz (R86). -/
def uq88 (N : NumOps R) (v : Half) : R := N.ofRat ((v.toNat : ℚ) / 256)

/-- The UQ12.4 operand `zext_16(V)/16`, in beats per minute (R86). -/
def uq124 (N : NumOps R) (v : Half) : R := N.ofRat ((v.toNat : ℚ) / 16)

/-- The controller value `cc = clamp(zext_16(V), 0, 127)` (R87). -/
def controllerOperand (v : Half) : Nat := min v.toNat 127

/-- Sustain, release, cutoff, detune and amplitude through a controller: `cc/127` (R87). -/
def ccUnit (N : NumOps R) (v : Half) : R := N.div (N.ofRat (controllerOperand v)) (N.ofRat 127)

/-- Attack and decay through a controller: `cc/127 · 2` (R87). -/
def ccDouble (N : NumOps R) (v : Half) : R := N.mul (ccUnit N v) (N.ofRat 2)

/-- A waveform through a controller: `floor(cc·4/128)` (R87). -/
def ccWave (v : Half) : Waveform := waveOfCode (controllerOperand v * 4 / 128)

/-- A SET operand of a register with the range `[0, 2]`, clamped (R85, R252). -/
def setTime (N : NumOps R) (v : Half) : R := clamp N (q412 N v) (N.ofRat 0) (N.ofRat 2)

/-- A SET operand of a register with the range `[0, 1]`, clamped (R85, R252). -/
def setUnit (N : NumOps R) (v : Half) : R := clamp N (q412 N v) (N.ofRat 0) (N.ofRat 1)

/-- A SET operand of a waveform register: `min(u, 3)` (R88, R253). -/
def setWave (v : Half) : Waveform := waveOfCode v.toNat

/-- A SET operand of the LFO target: `min(u, 3)` (R88, R253). -/
def setTarget (v : Half) : LfoTarget := targetOfCode v.toNat

/-- A SET operand of a Boolean register: `min(u, 1)` (R88, R253). -/
def setBool (v : Half) : Bool := boolOfCode v.toNat

end Sys2Proof.Machine
end

