-- ==== Sys2Proof/Machine/Detune.lean ====
section
/-! DEFINITION. Note-to-frequency mapping and detune (spec/43_detune_frequency.md R170 to R179). `F` is
`Config.noteFreq`. -/

namespace Sys2Proof.Machine

variable {R : Type} {n : Nat}

/-- The effective detune `detEff` (R172). -/
def effectiveDetune (s : Synth R n) : R :=
  if s.params.lfoTarget = .detune then s.lfo.lfoDetune else s.params.detune

/-- The offset in Hz of an effective detune, `5·det` (R173). -/
def detuneHz (c : Config R n) (det : R) : R := c.num.mul (c.num.ofRat DETUNE_HZ) det

/-- `set_freqs` on one voice record, for its own note and an effective detune `det` (R173): the second oscillator
gets the plus, the third the minus. -/
def setFreqs (c : Config R n) (det : R) (v : Voice R) : Voice R :=
  { v with
    osc0 := { v.osc0 with freq := c.noteFreq v.note }
    osc1 := { v.osc1 with freq := c.num.add (c.noteFreq v.note) (detuneHz c det) }
    osc2 := { v.osc2 with freq := c.num.sub (c.noteFreq v.note) (detuneHz c det) } }

/-- One voice in `apply_detune`: only an assigned one is written (R174). -/
def detuneVoice (c : Config R n) (det : R) (v : Voice R) : Voice R := if v.note = -1 then v else setFreqs c det v

/-- `apply_detune` (R174). -/
def applyDetune (c : Config R n) (s : Synth R n) : Synth R n :=
  s.setPool (s.pool.map (detuneVoice c (effectiveDetune s)))

end Sys2Proof.Machine
end

