-- ==== Sys2Proof/Machine/Envelope.lean ====
section
/-! DEFINITION. The envelope generator (spec/40_envelope.md R110 to R125): `env_advance`, `env_trigger`, `env_release`,
shared by the voice envelopes and the filter's. `c.rate` is `RATE`. -/

namespace Sys2Proof.Machine

variable {R : Type} {n : Nat}

/-- The Idle arm (R112). -/
def armIdle (c : Config R n) (e : Envelope R) : Envelope R := { e with out := c.num.ofRat 0 }

/-- The output of the Attack arm before its test: `out + 1/(a·RATE)` (R113). -/
def attackOut (c : Config R n) (out a : R) : R :=
  c.num.add out (c.num.div (c.num.ofRat 1) (c.num.mul a (c.num.ofRat c.rate)))

/-- The Attack arm (R113). -/
def armAttack (c : Config R n) (e : Envelope R) (a : R) : Envelope R :=
  if c.num.lt (c.num.ofRat 0) a then
    if c.num.le (c.num.ofRat 1) (attackOut c e.out a) then { state := .decay, out := c.num.ofRat 1 }
    else { e with out := attackOut c e.out a }
  else { state := .decay, out := c.num.ofRat 1 }

/-- The Decay arm's target: the sustain level, or `DECAY_TARGET0` when that is 0 (R114). -/
def decayTarget (c : Config R n) (p : Adsr R) : R :=
  if c.num.lt (c.num.ofRat 0) p.s then p.s else c.decayTarget0 p.d p.s p.r

/-- The state that follows Decay (R114). -/
def decayNext (c : Config R n) (p : Adsr R) : EnvState :=
  if c.num.lt (c.num.ofRat 0) p.s then .sustain else .release

/-- The output of the Decay arm before its test: `out - (1 - target)/(d·RATE)` (R114). -/
def decayOut (c : Config R n) (out : R) (p : Adsr R) : R :=
  c.num.sub out
    (c.num.div (c.num.sub (c.num.ofRat 1) (decayTarget c p)) (c.num.mul p.d (c.num.ofRat c.rate)))

/-- The Decay arm (R114). -/
def armDecay (c : Config R n) (e : Envelope R) (p : Adsr R) : Envelope R :=
  if c.num.lt (c.num.ofRat 0) p.d then
    if c.num.le (decayOut c e.out p) (decayTarget c p) then { state := decayNext c p, out := decayTarget c p }
    else { e with out := decayOut c e.out p }
  else { state := decayNext c p, out := decayTarget c p }

/-- The output of the Release arm before its test: `out - out/(r·RATE)` (R116). -/
def releaseOut (c : Config R n) (out r : R) : R :=
  c.num.sub out (c.num.div out (c.num.mul r (c.num.ofRat c.rate)))

/-- The Release arm (R116). -/
def armRelease (c : Config R n) (e : Envelope R) (r : R) : Envelope R :=
  if c.num.lt (c.num.ofRat 0) r then
    if c.num.le (releaseOut c e.out r) (c.num.ofRat ENV_FLOOR) then { state := .idle, out := c.num.ofRat 0 }
    else { e with out := releaseOut c e.out r }
  else { state := .idle, out := c.num.ofRat 0 }

/-- The Sustain arm; a sustain level of 0 runs the Release arm in this same call (R115). -/
def armSustain (c : Config R n) (e : Envelope R) (p : Adsr R) : Envelope R :=
  if c.num.eq p.s (c.num.ofRat 0) then armRelease c { e with state := .release } p.r else { e with out := p.s }

/-- `env_advance`: exactly one arm, that of the state on entry (R110). The value it returns is the `out` of the
envelope it leaves. -/
def envAdvance (c : Config R n) (e : Envelope R) (p : Adsr R) : Envelope R :=
  match e.state with
  | .idle => armIdle c e
  | .attack => armAttack c e p.a
  | .decay => armDecay c e p
  | .sustain => armSustain c e p
  | .release => armRelease c e p.r

/-- `env_trigger`, in every state (R118). -/
def envTrigger (c : Config R n) (_e : Envelope R) : Envelope R := { state := .attack, out := c.num.ofRat ENV_TRIGGER_LEVEL }

/-- `env_release`; nothing in Release and Idle (R119). -/
def envRelease (e : Envelope R) : Envelope R :=
  match e.state with
  | .attack => { e with state := .release }
  | .decay => { e with state := .release }
  | .sustain => { e with state := .release }
  | .release => e
  | .idle => e

/-- The block the voice envelopes read, `ADSR` (R33). -/
def Params.adsr (p : Params R) : Adsr R := { a := p.attack, d := p.decay, s := p.sustain, r := p.release }

/-- The block the filter's envelope reads, `F_ADSR` (R33). -/
def Params.fAdsr (p : Params R) : Adsr R := { a := p.fAttack, d := p.fDecay, s := p.fSustain, r := p.fRelease }

end Sys2Proof.Machine
end

