-- ==== Sys2Proof/Machine/Flags.lean ====
section
/-! DEFINITION. The one flag of the engine, `PRESET_ERR` (spec/10_state.md R29), and the staging bits that decide it.
No other condition code exists, and only PRESET_COMMIT, PRESET_ABORT and reset write this one. -/

namespace Sys2Proof.Machine

variable {R : Type} {n : Nat}

/-- The slots `0..VOICES-1` in ascending order (R13's `for i in 0..VOICES-1`). -/
def slots (n : Nat) : List (Fin n) := List.finRange n

/-- The preset field indices `0..14` in ascending order. -/
def fields : List (Fin FIELDS) := List.finRange FIELDS

/-- `complete` of R296: every field was staged. -/
def stagedComplete (s : Synth R n) : Bool := fields.all fun i => s.stgv[i]

/-- `enums_ok` of R296: the enable flag and the three waveform fields hold codes of their enumerations. -/
def stagedEnumsOk (s : Synth R n) : Bool :=
  decide ((s.stg[9]).toNat ≤ 1) && decide ((s.stg[10]).toNat ≤ 3) &&
    decide ((s.stg[11]).toNat ≤ 3) && decide ((s.stg[12]).toNat ≤ 3)

/-- `for i in 0..14: STGV[i] <- 0`; `STG` keeps its values (R296, R297). -/
def clearStaged (s : Synth R n) : Synth R n := s.setStgv (Vector.replicate FIELDS false)

/-- The whole effect of a rejected or aborted import: `PRESET_ERR <- 1` and the staging bits cleared. The spec's
nearest thing to taking an exception (R317): nothing is saved and no mode changes. -/
def rejectImport (s : Synth R n) : Synth R n := (clearStaged s).setPresetErr true

/-- The end of an accepted import: `PRESET_ERR <- 0` and the staging bits cleared (R296). There is no other way but
reset to clear the flag, and no trap return (R318). -/
def acceptImport (s : Synth R n) : Synth R n := (clearStaged s).setPresetErr false

end Sys2Proof.Machine
end

