-- ==== Sys2Proof/Machine/VoicePool.lean ====
section
/-! DEFINITION. The voice pool (spec/42_voice_pool.md R145 to R162): free, sounding, the reclaim pass, assignment, the
sort, and the commands NOTE_ON and NOTE_OFF. -/

namespace Sys2Proof.Machine

variable {R : Type} {n : Nat}

/-- `free(i)` in the mode `arpEn` (R146). -/
def isFree (arpEn : Bool) (v : Voice R) : Bool := if arpEn then !v.pressed else decide (v.env.state = .idle)

/-- `sounding(i)` in the mode `arpEn` (R154). -/
def isSounding (arpEn : Bool) (v : Voice R) : Bool :=
  if arpEn then v.pressed
  else decide (v.env.state = .attack ∨ v.env.state = .decay ∨ v.env.state = .sustain)

/-- The least slot whose voice satisfies `q` (R149, R154). -/
def firstSlot (q : Voice R → Bool) (p : Pool R n) : Option (Fin n) := (slots n).find? fun i => q p[i]

/-- One voice in the reclaim pass: a Release is cut to Idle and output 0, nothing else is written (R147). -/
def reclaimVoice (N : NumOps R) (v : Voice R) : Voice R :=
  if v.env.state = .release then { v with env := { state := .idle, out := N.ofRat 0 } } else v

/-- The reclaim pass; nothing in arpeggio mode (R147). -/
def reclaim (c : Config R n) (s : Synth R n) : Synth R n :=
  if s.params.arpEn then s else s.setPool (s.pool.map (reclaimVoice c.num))

/-- The level of a velocity, `velocity/127` (R24, R148). -/
def velocityLevel (N : NumOps R) (velocity : Nat) : R := N.div (N.ofRat velocity) (N.ofRat 127)

/-- What assignment writes in the voice record: note, pressed, velocity, the envelope, the frequencies, and no phase
(R148, R150). `det` is the effective detune. -/
def assignVoice (c : Config R n) (det : R) (note : Int) (velocity : Nat) (v : Voice R) : Voice R :=
  setFreqs c det
    { v with note := note, pressed := true, vel := velocityLevel c.num velocity, env := envTrigger c v.env }

/-- One step of the insertion sort: `x` goes before the first record of a greater note, so equal notes keep their
order (R158, pass 1). -/
def insertByNote (x : Voice R) : List (Voice R) → List (Voice R)
  | [] => [x]
  | y :: ys => if x.note < y.note then x :: y :: ys else y :: insertByNote x ys

/-- Pass 1 of the sort: insertion of the records in ascending slot order (R158). -/
def sortPass (vs : List (Voice R)) : List (Voice R) := vs.foldl (fun acc x => insertByNote x acc) []

/-- Pass 2 of the sort: the stable partition that moves the unassigned records to the tail (R158). -/
def tailPass (vs : List (Voice R)) : List (Voice R) :=
  vs.filter (fun v => decide (v.note ≠ -1)) ++ vs.filter (fun v => decide (v.note = -1))

theorem length_insertByNote (x : Voice R) (vs : List (Voice R)) : (insertByNote x vs).length = vs.length + 1 := by
  induction vs with
  | nil => rfl
  | cons y ys ih => simp only [insertByNote]; split <;> simp [ih]

theorem length_sortPass (vs : List (Voice R)) : (sortPass vs).length = vs.length := by
  suffices h : ∀ acc : List (Voice R),
      (vs.foldl (fun acc x => insertByNote x acc) acc).length = acc.length + vs.length by
    simpa [sortPass] using h []
  induction vs with
  | nil => simp
  | cons x xs ih => intro acc; simp only [List.foldl_cons, ih, length_insertByNote, List.length_cons]; omega

theorem length_tailPass (vs : List (Voice R)) : (tailPass vs).length = vs.length := by
  induction vs with
  | nil => rfl
  | cons x xs ih =>
    by_cases h : x.note = -1 <;> simp [tailPass, h] at ih ⊢ <;> omega

/-- The list of records after `pool_sort` (R158). -/
def sortedVoices (p : Pool R n) : List (Voice R) := tailPass (sortPass p.toList)

theorem length_sortedVoices (p : Pool R n) : (sortedVoices p).toArray.size = n := by
  simp [sortedVoices, length_tailPass, length_sortPass]

/-- `pool_sort` (R158): whole records move, and `ARP.index` is not adjusted. -/
def poolSort (p : Pool R n) : Pool R n := ⟨(sortedVoices p).toArray, length_sortedVoices p⟩

/-- The last line of NOTE_ON and NOTE_OFF: the sort, in arpeggio mode only (R158). -/
def sortIfArp (s : Synth R n) : Synth R n := if s.params.arpEn then s.setPool (poolSort s.pool) else s

/-- The filter's envelope at a NOTE_ON or an arpeggiator step: triggered when it is enabled (R156, R214). -/
def triggerFenv (c : Config R n) (s : Synth R n) : Synth R n :=
  if s.params.fEnvEn then s.setFenv (envTrigger c s.fenv) else s

/-- The filter's envelope at a NOTE_OFF that found a voice: released when it is enabled (R156). -/
def releaseFenv (s : Synth R n) : Synth R n := if s.params.fEnvEn then s.setFenv (envRelease s.fenv) else s

/-- The assignment of a note to the slot `i` and what follows it in NOTE_ON (R148). -/
def assignSlot (c : Config R n) (i : Fin n) (note : Int) (velocity : Nat) (s : Synth R n) : Synth R n :=
  sortIfArp (triggerFenv c
    (s.setPool (s.pool.set i (assignVoice c (effectiveDetune s) note velocity s.pool[i]))))

/-- NOTE_ON for a note number in 0..127 (R148): reclaim, first fit, assignment; a full pool drops the note (R151). -/
def playNote (c : Config R n) (note : Int) (velocity : Nat) (s : Synth R n) : Synth R n :=
  let s1 := reclaim c s
  match firstSlot (isFree s1.params.arpEn) s1.pool with
  | none => s1
  | some i => assignSlot c i note velocity s1

/-- NOTE_ON (R148): a note number above 127 does nothing, not even the reclaim pass (R83). -/
def noteOn (c : Config R n) (a : BitVec 8) (v : Half) (s : Synth R n) : Synth R n :=
  match noteOperand a with
  | none => s
  | some note => playNote c note (velocityOperand v) s

/-- The voice NOTE_OFF found, in the mode `arpEn`: its envelope is released, and in arpeggio mode it loses its note
at once (R153, R155). -/
def releaseVoice (arpEn : Bool) (v : Voice R) : Voice R :=
  if arpEn then { v with env := envRelease v.env, pressed := false, note := -1 }
  else { v with env := envRelease v.env }

/-- What NOTE_OFF does with the slot it found (R153). -/
def releaseSlot (i : Fin n) (s : Synth R n) : Synth R n :=
  sortIfArp (releaseFenv (s.setPool (s.pool.set i (releaseVoice s.params.arpEn s.pool[i]))))

/-- Whether a voice holds the note and is sounding (R153, R154). -/
def holdsNote (arpEn : Bool) (note : Int) (v : Voice R) : Bool := decide (v.note = note) && isSounding arpEn v

/-- NOTE_OFF for a note number in 0..127 (R153); no match is not an error. -/
def stopNote (note : Int) (s : Synth R n) : Synth R n :=
  match firstSlot (holdsNote s.params.arpEn note) s.pool with
  | none => s
  | some i => releaseSlot i s

/-- NOTE_OFF (R153): a note number above 127 does nothing (R83). -/
def noteOff (a : BitVec 8) (s : Synth R n) : Synth R n :=
  match noteOperand a with
  | none => s
  | some note => stopNote note s

/-- NOTE_ON. -/
def execNoteOn (a : BitVec 8) (v : Half) (s : State) : Host.Outcome State Fault Refusal :=
  .next ⟨noteOn engine a v s.toSynth⟩

/-- NOTE_OFF. -/
def execNoteOff (a : BitVec 8) (s : State) : Host.Outcome State Fault Refusal := .next ⟨noteOff a s.toSynth⟩

end Sys2Proof.Machine
end

