-- ==== Sys2Proof/Machine/Arpeggiator.lean ====
section
/-! DEFINITION. The arpeggiator (spec/46_arpeggiator.md R210 to R221): the step at the start of a TICK and the mode
switch. -/

namespace Sys2Proof.Machine

variable {R : Type} {n : Nat}

/-- The tempo increment of one TICK, `BPM/(60·RATE)` (R212). -/
def tempoIncrement (c : Config R n) (p : Params R) : R :=
  c.num.div p.bpm (c.num.mul (c.num.ofRat 60) (c.num.ofRat c.rate))

/-- The number of pressed voices (R211). -/
def pressedCount (p : Pool R n) : Nat := (slots n).countP fun i => p[i].pressed

/-- `(index + 1) mod cnt` as a slot number, for `0 < cnt ≤ VOICES` (R211, R213). -/
def nextIndex [NeZero n] (i : Fin n) (cnt : Nat) : Fin n := Fin.ofNat n ((i.val + 1) % cnt)

/-- The voice at the new index, re-triggered with the filter's envelope if it is pressed (R214). -/
def retriggerAt (c : Config R n) (i : Fin n) (s : Synth R n) : Synth R n :=
  if s.pool[i].pressed then
    triggerFenv c (s.setPool (s.pool.set i { s.pool[i] with env := envTrigger c s.pool[i].env }))
  else s

/-- The tempo accumulator reached 1: it is reset, and the index moves (R211, R213, R217). -/
def arpFire [NeZero n] (c : Config R n) (s : Synth R n) : Synth R n :=
  let cnt := pressedCount s.pool
  if cnt = 0 then s.setArp { index := 0, phase := c.num.ofRat 0 }
  else
    let i := nextIndex s.arp.index cnt
    retriggerAt c i (s.setArp { index := i, phase := c.num.ofRat 0 })

/-- `arp_step` (R211). -/
def arpStep [NeZero n] (c : Config R n) (s : Synth R n) : Synth R n :=
  let phase := c.num.add s.arp.phase (tempoIncrement c s.params)
  if c.num.le (c.num.ofRat 1) phase then arpFire c s else s.setArp { s.arp with phase := phase }

/-- A voice in the pool reset of the mode switch: note, pressed, velocity and envelope, but no oscillator (R218). -/
def forgetVoice (N : NumOps R) (v : Voice R) : Voice R :=
  { v with note := -1, pressed := false, vel := N.ofRat 0, env := { state := .idle, out := N.ofRat 0 } }

/-- `arp_mode_switch(en)` (R218): nothing when the value does not change. -/
def arpModeSwitch [NeZero n] (c : Config R n) (en : Bool) (s : Synth R n) : Synth R n :=
  if en = s.params.arpEn then s
  else
    ((s.setParams { s.params with arpEn := en }).setPool (s.pool.map (forgetVoice c.num))).setArp
      { index := 0, phase := c.num.ofRat 0 }

end Sys2Proof.Machine
end

