-- ==== Sys2Proof/Machine/Ops.lean ====
section
/-! DEFINITION. The shared operations on registers and ports: the write of a parameter register (spec/48_parameters.md
R254), the reset input (spec/70_reset_and_hazards.md R340), the sample port's hand-off (spec/30_encoding.md R84) and the
fetch of the next command word (spec/30_encoding.md R81).

The engine has no addressable memory (spec/20_memory.md R61) and takes no exception (spec/60_exceptions.md R310, R317,
R318): the operations a processor would have here have no counterpart but `rejectImport` of Sys2Proof/Machine/Flags.lean. -/

namespace Sys2Proof.Machine

variable {R : Type} {n : Nat}

/-- The register file after one write (R30, R254). -/
def Params.put (p : Params R) : ParamWrite R → Params R
  | .attack x => { p with attack := x }
  | .decay x => { p with decay := x }
  | .sustain x => { p with sustain := x }
  | .release x => { p with release := x }
  | .fAttack x => { p with fAttack := x }
  | .fDecay x => { p with fDecay := x }
  | .fSustain x => { p with fSustain := x }
  | .fRelease x => { p with fRelease := x }
  | .cutoff x => { p with cutoff := x }
  | .fEnvEn b => { p with fEnvEn := b }
  | .waveA w => { p with waveA := w }
  | .waveB w => { p with waveB := w }
  | .waveC w => { p with waveC := w }
  | .detune x => { p with detune := x }
  | .amplitude x => { p with amplitude := x }
  | .lfoTarget t => { p with lfoTarget := t }
  | .lfoWave w => { p with lfoWave := w }
  | .lfoFreq x => { p with lfoFreq := x }
  | .arpEn b => { p with arpEn := b }
  | .bpm x => { p with bpm := x }

/-- The id of the register a write goes to (R30). -/
def ParamWrite.id : ParamWrite R → Nat
  | .attack _ => 0
  | .decay _ => 1
  | .sustain _ => 2
  | .release _ => 3
  | .fAttack _ => 4
  | .fDecay _ => 5
  | .fSustain _ => 6
  | .fRelease _ => 7
  | .cutoff _ => 8
  | .fEnvEn _ => 9
  | .waveA _ => 10
  | .waveB _ => 11
  | .waveC _ => 12
  | .detune _ => 13
  | .amplitude _ => 14
  | .lfoTarget _ => 15
  | .lfoWave _ => 16
  | .lfoFreq _ => 17
  | .arpEn _ => 18
  | .bpm _ => 19

/-- The write of a register without its side effect. -/
def putParam (w : ParamWrite R) (s : Synth R n) : Synth R n := s.setParams (s.params.put w)

/-- `write_param(id, x)` (R254): `ARP_EN` switches the mode, `DETUNE` and `LFO_TARGET` end with `apply_detune`, and
every other register is only written (R68). -/
def writeParam [NeZero n] (c : Config R n) (w : ParamWrite R) (s : Synth R n) : Synth R n :=
  match w with
  | .arpEn b => arpModeSwitch c b s
  | .detune x => applyDetune c (putParam (.detune x) s)
  | .lfoTarget t => applyDetune c (putParam (.lfoTarget t) s)
  | .attack x => putParam (.attack x) s
  | .decay x => putParam (.decay x) s
  | .sustain x => putParam (.sustain x) s
  | .release x => putParam (.release x) s
  | .fAttack x => putParam (.fAttack x) s
  | .fDecay x => putParam (.fDecay x) s
  | .fSustain x => putParam (.fSustain x) s
  | .fRelease x => putParam (.fRelease x) s
  | .cutoff x => putParam (.cutoff x) s
  | .fEnvEn b => putParam (.fEnvEn b) s
  | .waveA w => putParam (.waveA w) s
  | .waveB w => putParam (.waveB w) s
  | .waveC w => putParam (.waveC w) s
  | .amplitude x => putParam (.amplitude x) s
  | .lfoWave w => putParam (.lfoWave w) s
  | .lfoFreq x => putParam (.lfoFreq x) s
  | .bpm x => putParam (.bpm x) s

/-- What the engine does while `rst` is asserted: every field of the engine at its reset value, no sample offered, a
sample not yet transferred withdrawn (R340). The input pins, the words the host offers and the samples the sink
already took are not the engine's. -/
def applyReset [NeZero n] (c : Config R n) (s : Synth R n) : Synth R n :=
  { Synth.reset c with rst := s.rst, cmdIn := s.cmdIn, smpReady := s.smpReady, sink := s.sink }

/-- The sample port while `y` stands on it: with `smp_ready` the sink takes it, else the engine waits (R84, R74). -/
def handOff (y : Sample) (s : Synth R n) : Synth R n :=
  if s.smpReady then (s.setSmpOut none).setSink (s.sink ++ [y]) else s

/-- The output `cmd_ready`: only when the previous command has completed, with its hand-off, and not in reset
(R81, R340). -/
def cmdReady (s : Synth R n) : Bool := !s.rst && s.smpOut.isNone

/-- The transfer on the command port, when a word is offered: the word, and the state without it (R81). -/
def fetch (s : Synth R n) : Option (Word × Synth R n) :=
  match s.cmdIn with
  | [] => none
  | w :: ws => some (w, s.setCmdIn ws)

/-- Lays a word on the command port before the words already there, with the engine ready to take it. -/
def offerWord (s : Synth R n) (w : Word) : Synth R n :=
  { s with rst := false, smpOut := none, cmdIn := w :: s.cmdIn }

end Sys2Proof.Machine
end

