-- ==== Sys2Proof/Machine/Controllers.lean ====
section
/-! DEFINITION. The continuous-controller commands (spec/48_parameters.md R260 to R269): each is `write_param` of the
scaled controller value (R87). -/

namespace Sys2Proof.Machine

variable {R : Type} {n : Nat}

/-- CC.ATTACK (R260), for any configuration. -/
def ccAttack [NeZero n] (c : Config R n) (v : Half) (s : Synth R n) : Synth R n :=
  writeParam c (.attack (ccDouble c.num v)) s

/-- CC.ATTACK. -/
def execCcAttack (v : Half) (s : State) : Host.Outcome State Fault Refusal := .next ⟨ccAttack engine v s.toSynth⟩

/-- CC.DECAY (R261), for any configuration. -/
def ccDecay [NeZero n] (c : Config R n) (v : Half) (s : Synth R n) : Synth R n :=
  writeParam c (.decay (ccDouble c.num v)) s

/-- CC.DECAY. -/
def execCcDecay (v : Half) (s : State) : Host.Outcome State Fault Refusal := .next ⟨ccDecay engine v s.toSynth⟩

/-- CC.SUSTAIN (R262), for any configuration. -/
def ccSustain [NeZero n] (c : Config R n) (v : Half) (s : Synth R n) : Synth R n :=
  writeParam c (.sustain (ccUnit c.num v)) s

/-- CC.SUSTAIN. -/
def execCcSustain (v : Half) (s : State) : Host.Outcome State Fault Refusal := .next ⟨ccSustain engine v s.toSynth⟩

/-- CC.RELEASE (R263), for any configuration. -/
def ccRelease [NeZero n] (c : Config R n) (v : Half) (s : Synth R n) : Synth R n :=
  writeParam c (.release (ccUnit c.num v)) s

/-- CC.RELEASE. -/
def execCcRelease (v : Half) (s : State) : Host.Outcome State Fault Refusal := .next ⟨ccRelease engine v s.toSynth⟩

/-- CC.CUTOFF (R264), for any configuration. -/
def ccCutoff [NeZero n] (c : Config R n) (v : Half) (s : Synth R n) : Synth R n :=
  writeParam c (.cutoff (ccUnit c.num v)) s

/-- CC.CUTOFF. -/
def execCcCutoff (v : Half) (s : State) : Host.Outcome State Fault Refusal := .next ⟨ccCutoff engine v s.toSynth⟩

/-- CC.WAVE_A (R265), for any configuration. -/
def ccWaveA [NeZero n] (c : Config R n) (v : Half) (s : Synth R n) : Synth R n :=
  writeParam c (.waveA (ccWave v)) s

/-- CC.WAVE_A. -/
def execCcWaveA (v : Half) (s : State) : Host.Outcome State Fault Refusal := .next ⟨ccWaveA engine v s.toSynth⟩

/-- CC.WAVE_B (R266), for any configuration. -/
def ccWaveB [NeZero n] (c : Config R n) (v : Half) (s : Synth R n) : Synth R n :=
  writeParam c (.waveB (ccWave v)) s

/-- CC.WAVE_B. -/
def execCcWaveB (v : Half) (s : State) : Host.Outcome State Fault Refusal := .next ⟨ccWaveB engine v s.toSynth⟩

/-- CC.WAVE_C (R267), for any configuration. -/
def ccWaveC [NeZero n] (c : Config R n) (v : Half) (s : Synth R n) : Synth R n :=
  writeParam c (.waveC (ccWave v)) s

/-- CC.WAVE_C. -/
def execCcWaveC (v : Half) (s : State) : Host.Outcome State Fault Refusal := .next ⟨ccWaveC engine v s.toSynth⟩

/-- CC.DETUNE (R268), for any configuration. -/
def ccDetune [NeZero n] (c : Config R n) (v : Half) (s : Synth R n) : Synth R n :=
  writeParam c (.detune (ccUnit c.num v)) s

/-- CC.DETUNE. -/
def execCcDetune (v : Half) (s : State) : Host.Outcome State Fault Refusal := .next ⟨ccDetune engine v s.toSynth⟩

/-- CC.AMPLITUDE (R269), for any configuration. -/
def ccAmplitude [NeZero n] (c : Config R n) (v : Half) (s : Synth R n) : Synth R n :=
  writeParam c (.amplitude (ccUnit c.num v)) s

/-- CC.AMPLITUDE. -/
def execCcAmplitude (v : Half) (s : State) : Host.Outcome State Fault Refusal := .next ⟨ccAmplitude engine v s.toSynth⟩

end Sys2Proof.Machine
end

