-- ==== Sys2Proof/Machine/Filter.lean ====
section
/-! DEFINITION. The low-pass filter and the resolution of its cutoff (spec/44_filter.md R180 to R191). -/

namespace Sys2Proof.Machine

variable {R : Type} {n : Nat}

/-- `omega(c) = 2·PI·(c·RATE/8)/RATE`, as SYN writes it (R181). -/
def omega (c : Config R n) (cutoff : R) : R :=
  c.num.div
    (c.num.mul (c.num.mul (c.num.ofRat 2) c.num.pi)
      (c.num.div (c.num.mul cutoff (c.num.ofRat c.rate)) (c.num.ofRat CUTOFF_DIV)))
    (c.num.ofRat c.rate)

/-- The coefficient `alpha(c) = omega/(omega + 1)` (R181). -/
def alpha (c : Config R n) (cutoff : R) : R :=
  c.num.div (omega c cutoff) (c.num.add (omega c cutoff) (c.num.ofRat 1))

/-- The cutoff the filter's envelope asks for: `clamp(P.CUTOFF + fe/2, 0, 1)` (R184). -/
def envelopeCutoff (c : Config R n) (cutoff fe : R) : R :=
  clamp c.num (c.num.add cutoff (c.num.div fe (c.num.ofRat 2))) (c.num.ofRat 0) (c.num.ofRat 1)

/-- `filter_env_step` (R184): while the envelope is disabled it is neither advanced nor written. -/
def filterEnvStep (c : Config R n) (s : Synth R n) : Synth R n :=
  if s.params.fEnvEn then
    let e := envAdvance c s.fenv s.params.fAdsr
    (s.setFenv e).setFlt { s.flt with envCutoff := envelopeCutoff c s.params.cutoff e.out }
  else s

/-- `resolve_cutoff` (R185): LFO over envelope over the static cutoff, and the clamp on all three (D31). -/
def resolveCutoff (c : Config R n) (s : Synth R n) : R :=
  clamp c.num
    (if s.params.lfoTarget = .cutoff then s.flt.lfoCutoff
     else if s.params.fEnvEn then s.flt.envCutoff
     else s.params.cutoff) (c.num.ofRat 0) (c.num.ofRat 1)

/-- The one-pole recurrence `a·x + (1 - a)·prev` (R186). -/
def onePole (N : NumOps R) (a x prev : R) : R := N.add (N.mul a x) (N.mul (N.sub (N.ofRat 1) a) prev)

/-- The output of `filter_step(x)` (R186). -/
def filterOut (c : Config R n) (x : R) (s : Synth R n) : R :=
  onePole c.num (alpha c (resolveCutoff c s)) x s.flt.prevOut

/-- The state after `filter_step(x)`: the sample memory (R186, R187). -/
def filterStep (c : Config R n) (x : R) (s : Synth R n) : Synth R n :=
  s.setFlt { s.flt with prevIn := x, prevOut := filterOut c x s }

end Sys2Proof.Machine
end

