-- ==== Sys2Proof/Machine/Oscillator.lean ====
section
/-! DEFINITION. The oscillator (spec/41_oscillator.md R130 to R142): the four waveforms and the phase accumulator,
shared by the voice oscillators and the LFO. -/

namespace Sys2Proof.Machine

variable {R : Type} {n : Nat}

/-- `wave(w, p)` (R132 to R137), at the stored phase, with no interpolation (R139). -/
def wave (N : NumOps R) (w : Waveform) (p : R) : R :=
  match w with
  | .sine => N.sin2pi p
  | .square => if N.lt p (N.ofRat (1 / 2)) then N.ofRat 1 else N.ofRat (-1)
  | .triangle => N.sub (N.ofRat 1) (N.mul (N.ofRat 4) (N.abs (N.sub p (N.ofRat (1 / 2)))))
  | .sawtooth => N.sub (N.mul (N.ofRat 2) p) (N.ofRat 1)

/-- The phase after one step at `f` Hz: `frac(phase + f/RATE)` (R136). -/
def phaseStep (c : Config R n) (phase f : R) : R :=
  frac c.num (c.num.add phase (c.num.div f (c.num.ofRat c.rate)))

/-- `osc_step` on a voice oscillator: the sample at the phase before the advance, and the oscillator after it
(R130, R136). -/
def oscStep (c : Config R n) (o : Oscillator R) (w : Waveform) : R × Oscillator R :=
  (wave c.num w o.phase, { o with phase := phaseStep c o.phase o.freq })

end Sys2Proof.Machine
end

