-- ==== Sys2Proof/Machine/Lfo.lean ====
section
/-! DEFINITION. The LFO router (spec/45_lfo.md R195 to R207). -/

namespace Sys2Proof.Machine

variable {R : Type} {n : Nat}

/-- The multiplier `m`: the waveform at the LFO's phase, rectified for sine and triangle, raw for square and
sawtooth (R197). -/
def lfoMultiplier (N : NumOps R) (w : Waveform) (phase : R) : R :=
  match w with
  | .sine => N.abs (wave N .sine phase)
  | .triangle => N.abs (wave N .triangle phase)
  | .square => wave N .square phase
  | .sawtooth => wave N .sawtooth phase

/-- The step of the LFO's oscillator, in every TICK (R196, R199). -/
def lfoPhaseStep (c : Config R n) (s : Synth R n) : Synth R n :=
  s.setLfo { s.lfo with phase := phaseStep c s.lfo.phase s.params.lfoFreq }

/-- The write of the selected target's shadow, for a multiplier `m` (R196, R198, R201). -/
def routeLfo (c : Config R n) (m : R) (s : Synth R n) : Synth R n :=
  match s.params.lfoTarget with
  | .off => s
  | .cutoff => s.setFlt { s.flt with lfoCutoff := c.num.mul m s.params.cutoff }
  | .detune => applyDetune c (s.setLfo { s.lfo with lfoDetune := c.num.mul m s.params.detune })
  | .amplitude => s.setLfo { s.lfo with lfoAmp := c.num.mul m s.params.amplitude }

/-- `lfo_update` (R196): the multiplier is taken at the phase before the step. -/
def lfoUpdate (c : Config R n) (s : Synth R n) : Synth R n :=
  routeLfo c (lfoMultiplier c.num s.params.lfoWave s.lfo.phase) (lfoPhaseStep c s)

end Sys2Proof.Machine
end

