-- ==== Sys2Proof/Machine/Mixer.lean ====
section
/-! DEFINITION. The mixer, the gain, the quantiser, and the commands TICK and NOP (spec/47_mixer_tick.md R225 to R247). -/

namespace Sys2Proof.Machine

variable {R : Type} {n : Nat}

/-- Whether the slot `i` is in the eligible set `E` (R226). -/
def eligible (s : Synth R n) (i : Fin n) : Bool :=
  if s.params.arpEn then decide (i = s.arp.index) else decide (s.pool[i].env.state ≠ .idle)

/-- `N = |E|` (R226). -/
def eligibleCount (s : Synth R n) : Nat := (slots n).countP (eligible s)

/-- The voice after `voice_render`: its envelope and its three phases advanced (R227). -/
def renderVoice (c : Config R n) (p : Params R) (v : Voice R) : Voice R :=
  { v with
    env := envAdvance c v.env p.adsr
    osc0 := (oscStep c v.osc0 p.waveA).2
    osc1 := (oscStep c v.osc1 p.waveB).2
    osc2 := (oscStep c v.osc2 p.waveC).2 }

/-- The mean of a voice's three oscillator samples (R227). -/
def oscMean (c : Config R n) (p : Params R) (v : Voice R) : R :=
  c.num.div
    (c.num.add (c.num.add (oscStep c v.osc0 p.waveA).1 (oscStep c v.osc1 p.waveB).1) (oscStep c v.osc2 p.waveC).1)
    (c.num.ofRat 3)

/-- The value `voice_render` returns: the mean of the three oscillators, times the envelope after its update, times
the velocity (R227). -/
def voiceSample (c : Config R n) (p : Params R) (v : Voice R) : R :=
  c.num.mul (c.num.mul (oscMean c p v) (envAdvance c v.env p.adsr).out) v.vel

/-- The sum over the eligible voices in ascending slot order from 0 (R228). -/
def voiceSum (c : Config R n) (s : Synth R n) : R :=
  ((slots n).filter (eligible s)).foldl (fun sum i => c.num.add sum (voiceSample c s.params s.pool[i])) (c.num.ofRat 0)

/-- The pool after the voices were rendered; a voice that is not eligible is not touched (R226). -/
def renderPool (c : Config R n) (s : Synth R n) : Pool R n :=
  Vector.ofFn fun i => if eligible s i then renderVoice c s.params s.pool[i] else s.pool[i]

/-- The normalisation gain (R230). -/
def gain (c : Config R n) (p : Params R) (count : Nat) : R :=
  if p.arpEn ∨ count = 0 then c.num.ofRat 1 else c.num.div (c.num.ofRat 1) (c.num.sqrt (c.num.ofRat count))

/-- The effective amplitude `ampEff` (R229). -/
def effectiveAmplitude (s : Synth R n) : R :=
  if s.params.lfoTarget = .amplitude then s.lfo.lfoAmp else s.params.amplitude

/-- `mixed`, after the LFO update: gain, amplitude and clamp of the voice sum (R231). -/
def mixed (c : Config R n) (count : Nat) (sum : R) (s : Synth R n) : R :=
  clamp c.num (c.num.mul (c.num.mul sum (gain c s.params count)) (effectiveAmplitude s)) (c.num.ofRat (-1)) (c.num.ofRat 1)

/-- `quantise(y)` (R233), before it is cut to 16 bits. -/
def quantise (c : Config R n) (y : R) : Int := c.quantRound (c.num.mul y (c.num.ofRat c.fullScale))

/-- `emit(s)`: the value stands on the sample port until the sink takes it (R84). -/
def emit (y : Int) (s : Synth R n) : Synth R n := s.setSmpOut (some (BitVec.ofInt 16 y))

/-- Step 1 of a TICK (R236). -/
def tickArp [NeZero n] (c : Config R n) (s : Synth R n) : Synth R n := if s.params.arpEn then arpStep c s else s

/-- Steps 2 and 3 of a TICK, on the state after step 1 (R236). -/
def tickVoices (c : Config R n) (s : Synth R n) : Synth R n := s.setPool (renderPool c s)

/-- Steps 5 and 6 of a TICK: `s` is the state after the LFO, `x` the mixed sample (R236). -/
def tickFilter (c : Config R n) (x : R) (s : Synth R n) : Synth R n := filterStep c x (filterEnvStep c s)

/-- TICK (R236): arpeggiator, eligible set, voices, LFO, mix, filter, and the sample on the port after all state
writes. -/
def tick [NeZero n] (c : Config R n) (s : Synth R n) : Synth R n :=
  let s1 := tickArp c s
  let s4 := lfoUpdate c (tickVoices c s1)
  let s6 := tickFilter c (mixed c (eligibleCount s1) (voiceSum c s1) s4) s4
  emit (quantise c s6.flt.prevOut) s6

/-- TICK. -/
def execTick (s : State) : Host.Outcome State Fault Refusal := .next ⟨tick engine s.toSynth⟩

/-- NOP: `skip` (R247). -/
def execNop (s : State) : Host.Outcome State Fault Refusal := .next s

end Sys2Proof.Machine
end

