-- ==== Sys2Proof/Machine/Parameters.lean ====
section
/-! DEFINITION. The SET commands (spec/48_parameters.md R270 to R289): each is `write_param` of the operand in the
register's format, clamped into its range (R85, R86, R88, R252, R253). -/

namespace Sys2Proof.Machine

variable {R : Type} {n : Nat}

/-- SET.ATTACK (R270), for any configuration. -/
def setAttack [NeZero n] (c : Config R n) (v : Half) (s : Synth R n) : Synth R n :=
  writeParam c (.attack (setTime c.num v)) s

/-- SET.ATTACK. -/
def execSetAttack (v : Half) (s : State) : Host.Outcome State Fault Refusal := .next ⟨setAttack engine v s.toSynth⟩

/-- SET.DECAY (R271), for any configuration. -/
def setDecay [NeZero n] (c : Config R n) (v : Half) (s : Synth R n) : Synth R n :=
  writeParam c (.decay (setTime c.num v)) s

/-- SET.DECAY. -/
def execSetDecay (v : Half) (s : State) : Host.Outcome State Fault Refusal := .next ⟨setDecay engine v s.toSynth⟩

/-- SET.SUSTAIN (R272), for any configuration. -/
def setSustain [NeZero n] (c : Config R n) (v : Half) (s : Synth R n) : Synth R n :=
  writeParam c (.sustain (setUnit c.num v)) s

/-- SET.SUSTAIN. -/
def execSetSustain (v : Half) (s : State) : Host.Outcome State Fault Refusal := .next ⟨setSustain engine v s.toSynth⟩

/-- SET.RELEASE (R273), for any configuration. -/
def setRelease [NeZero n] (c : Config R n) (v : Half) (s : Synth R n) : Synth R n :=
  writeParam c (.release (setUnit c.num v)) s

/-- SET.RELEASE. -/
def execSetRelease (v : Half) (s : State) : Host.Outcome State Fault Refusal := .next ⟨setRelease engine v s.toSynth⟩

/-- SET.F_ATTACK (R274), for any configuration. -/
def setFAttack [NeZero n] (c : Config R n) (v : Half) (s : Synth R n) : Synth R n :=
  writeParam c (.fAttack (setTime c.num v)) s

/-- SET.F_ATTACK. -/
def execSetFAttack (v : Half) (s : State) : Host.Outcome State Fault Refusal := .next ⟨setFAttack engine v s.toSynth⟩

/-- SET.F_DECAY (R275), for any configuration. -/
def setFDecay [NeZero n] (c : Config R n) (v : Half) (s : Synth R n) : Synth R n :=
  writeParam c (.fDecay (setTime c.num v)) s

/-- SET.F_DECAY. -/
def execSetFDecay (v : Half) (s : State) : Host.Outcome State Fault Refusal := .next ⟨setFDecay engine v s.toSynth⟩

/-- SET.F_SUSTAIN (R276), for any configuration. -/
def setFSustain [NeZero n] (c : Config R n) (v : Half) (s : Synth R n) : Synth R n :=
  writeParam c (.fSustain (setUnit c.num v)) s

/-- SET.F_SUSTAIN. -/
def execSetFSustain (v : Half) (s : State) : Host.Outcome State Fault Refusal := .next ⟨setFSustain engine v s.toSynth⟩

/-- SET.F_RELEASE (R277), for any configuration. -/
def setFRelease [NeZero n] (c : Config R n) (v : Half) (s : Synth R n) : Synth R n :=
  writeParam c (.fRelease (setUnit c.num v)) s

/-- SET.F_RELEASE. -/
def execSetFRelease (v : Half) (s : State) : Host.Outcome State Fault Refusal := .next ⟨setFRelease engine v s.toSynth⟩

/-- SET.CUTOFF (R278), for any configuration. -/
def setCutoff [NeZero n] (c : Config R n) (v : Half) (s : Synth R n) : Synth R n :=
  writeParam c (.cutoff (setUnit c.num v)) s

/-- SET.CUTOFF. -/
def execSetCutoff (v : Half) (s : State) : Host.Outcome State Fault Refusal := .next ⟨setCutoff engine v s.toSynth⟩

/-- SET.F_ENV_EN (R279), for any configuration. -/
def setFEnvEn [NeZero n] (c : Config R n) (v : Half) (s : Synth R n) : Synth R n :=
  writeParam c (.fEnvEn (setBool v)) s

/-- SET.F_ENV_EN. -/
def execSetFEnvEn (v : Half) (s : State) : Host.Outcome State Fault Refusal := .next ⟨setFEnvEn engine v s.toSynth⟩

/-- SET.WAVE_A (R280), for any configuration. -/
def setWaveA [NeZero n] (c : Config R n) (v : Half) (s : Synth R n) : Synth R n :=
  writeParam c (.waveA (setWave v)) s

/-- SET.WAVE_A. -/
def execSetWaveA (v : Half) (s : State) : Host.Outcome State Fault Refusal := .next ⟨setWaveA engine v s.toSynth⟩

/-- SET.WAVE_B (R281), for any configuration. -/
def setWaveB [NeZero n] (c : Config R n) (v : Half) (s : Synth R n) : Synth R n :=
  writeParam c (.waveB (setWave v)) s

/-- SET.WAVE_B. -/
def execSetWaveB (v : Half) (s : State) : Host.Outcome State Fault Refusal := .next ⟨setWaveB engine v s.toSynth⟩

/-- SET.WAVE_C (R282), for any configuration. -/
def setWaveC [NeZero n] (c : Config R n) (v : Half) (s : Synth R n) : Synth R n :=
  writeParam c (.waveC (setWave v)) s

/-- SET.WAVE_C. -/
def execSetWaveC (v : Half) (s : State) : Host.Outcome State Fault Refusal := .next ⟨setWaveC engine v s.toSynth⟩

/-- SET.DETUNE (R283), for any configuration. -/
def setDetune [NeZero n] (c : Config R n) (v : Half) (s : Synth R n) : Synth R n :=
  writeParam c (.detune (setUnit c.num v)) s

/-- SET.DETUNE. -/
def execSetDetune (v : Half) (s : State) : Host.Outcome State Fault Refusal := .next ⟨setDetune engine v s.toSynth⟩

/-- SET.AMPLITUDE (R284), for any configuration. -/
def setAmplitude [NeZero n] (c : Config R n) (v : Half) (s : Synth R n) : Synth R n :=
  writeParam c (.amplitude (setUnit c.num v)) s

/-- SET.AMPLITUDE. -/
def execSetAmplitude (v : Half) (s : State) : Host.Outcome State Fault Refusal := .next ⟨setAmplitude engine v s.toSynth⟩

/-- SET.LFO_TARGET (R285), for any configuration. -/
def setLfoTarget [NeZero n] (c : Config R n) (v : Half) (s : Synth R n) : Synth R n :=
  writeParam c (.lfoTarget (setTarget v)) s

/-- SET.LFO_TARGET. -/
def execSetLfoTarget (v : Half) (s : State) : Host.Outcome State Fault Refusal := .next ⟨setLfoTarget engine v s.toSynth⟩

/-- SET.LFO_WAVE (R286), for any configuration. -/
def setLfoWave [NeZero n] (c : Config R n) (v : Half) (s : Synth R n) : Synth R n :=
  writeParam c (.lfoWave (setWave v)) s

/-- SET.LFO_WAVE. -/
def execSetLfoWave (v : Half) (s : State) : Host.Outcome State Fault Refusal := .next ⟨setLfoWave engine v s.toSynth⟩

/-- SET.LFO_FREQ (R287), for any configuration. -/
def setLfoFreq [NeZero n] (c : Config R n) (v : Half) (s : Synth R n) : Synth R n :=
  writeParam c (.lfoFreq (uq88 c.num v)) s

/-- SET.LFO_FREQ. -/
def execSetLfoFreq (v : Half) (s : State) : Host.Outcome State Fault Refusal := .next ⟨setLfoFreq engine v s.toSynth⟩

/-- SET.ARP_EN (R288), for any configuration. -/
def setArpEn [NeZero n] (c : Config R n) (v : Half) (s : Synth R n) : Synth R n :=
  writeParam c (.arpEn (setBool v)) s

/-- SET.ARP_EN. -/
def execSetArpEn (v : Half) (s : State) : Host.Outcome State Fault Refusal := .next ⟨setArpEn engine v s.toSynth⟩

/-- SET.BPM (R289), for any configuration. -/
def setBpm [NeZero n] (c : Config R n) (v : Half) (s : Synth R n) : Synth R n :=
  writeParam c (.bpm (uq124 c.num v)) s

/-- SET.BPM. -/
def execSetBpm (v : Half) (s : State) : Host.Outcome State Fault Refusal := .next ⟨setBpm engine v s.toSynth⟩

end Sys2Proof.Machine
end

