-- ==== Sys2Proof/Machine/Preset.lean ====
section
/-! DEFINITION. The preset import (spec/48_parameters.md R295 to R299): stage, then commit or abort. -/

namespace Sys2Proof.Machine

variable {R : Type} {n : Nat}

/-- PRESET_FIELD (R295): the raw value is staged undecoded; an index above 14 does nothing (R89). -/
def presetField (a : BitVec 8) (v : Half) (s : Synth R n) : Synth R n :=
  if h : a.toNat < FIELDS then (s.setStg (s.stg.set a.toNat v h)).setStgv (s.stgv.set a.toNat true h) else s

/-- The registers after an accepted import: ids 0 to 14 from the staged values, numeric fields clamped, the others
as staged; ids 15 to 19 unchanged (R296). -/
def stagedParams (N : NumOps R) (s : Synth R n) : Params R :=
  { s.params with
    attack := setTime N s.stg[0]
    decay := setTime N s.stg[1]
    sustain := setUnit N s.stg[2]
    release := setUnit N s.stg[3]
    fAttack := setTime N s.stg[4]
    fDecay := setTime N s.stg[5]
    fSustain := setUnit N s.stg[6]
    fRelease := setUnit N s.stg[7]
    cutoff := setUnit N s.stg[8]
    fEnvEn := boolOfCode (s.stg[9]).toNat
    waveA := waveOfCode (s.stg[10]).toNat
    waveB := waveOfCode (s.stg[11]).toNat
    waveC := waveOfCode (s.stg[12]).toNat
    detune := setUnit N s.stg[13]
    amplitude := setUnit N s.stg[14] }

/-- PRESET_COMMIT (R296): all fifteen registers or none. -/
def presetCommit (c : Config R n) (s : Synth R n) : Synth R n :=
  if stagedComplete s && stagedEnumsOk s then
    acceptImport (applyDetune c (s.setParams (stagedParams c.num s)))
  else rejectImport s

/-- PRESET_ABORT (R297). -/
def presetAbort (s : Synth R n) : Synth R n := rejectImport s

/-- PRESET_FIELD. -/
def execPresetField (a : BitVec 8) (v : Half) (s : State) : Host.Outcome State Fault Refusal :=
  .next ⟨presetField a v s.toSynth⟩

/-- PRESET_COMMIT. -/
def execPresetCommit (s : State) : Host.Outcome State Fault Refusal := .next ⟨presetCommit engine s.toSynth⟩

/-- PRESET_ABORT. -/
def execPresetAbort (s : State) : Host.Outcome State Fault Refusal := .next ⟨presetAbort s.toSynth⟩

end Sys2Proof.Machine
end

