-- ==== Sys2Proof/Machine/Dispatch.lean ====
section
/-! DEFINITION. The meaning of every command: one arm per constructor of `Instr` (spec/30_encoding.md R82). -/

namespace Sys2Proof.Machine

/-- The effect of one command (R62: atomic). -/
def exec (i : Instr) (s : State) : Host.Outcome State Fault Refusal :=
  match i with
  | .nop => Sys2Proof.Machine.execNop s
  | .noteOn a v => Sys2Proof.Machine.execNoteOn a v s
  | .noteOff a => Sys2Proof.Machine.execNoteOff a s
  | .ccAttack v => Sys2Proof.Machine.execCcAttack v s
  | .ccDecay v => Sys2Proof.Machine.execCcDecay v s
  | .ccSustain v => Sys2Proof.Machine.execCcSustain v s
  | .ccRelease v => Sys2Proof.Machine.execCcRelease v s
  | .ccCutoff v => Sys2Proof.Machine.execCcCutoff v s
  | .ccWaveA v => Sys2Proof.Machine.execCcWaveA v s
  | .ccWaveB v => Sys2Proof.Machine.execCcWaveB v s
  | .ccWaveC v => Sys2Proof.Machine.execCcWaveC v s
  | .ccDetune v => Sys2Proof.Machine.execCcDetune v s
  | .ccAmplitude v => Sys2Proof.Machine.execCcAmplitude v s
  | .setAttack v => Sys2Proof.Machine.execSetAttack v s
  | .setDecay v => Sys2Proof.Machine.execSetDecay v s
  | .setSustain v => Sys2Proof.Machine.execSetSustain v s
  | .setRelease v => Sys2Proof.Machine.execSetRelease v s
  | .setFAttack v => Sys2Proof.Machine.execSetFAttack v s
  | .setFDecay v => Sys2Proof.Machine.execSetFDecay v s
  | .setFSustain v => Sys2Proof.Machine.execSetFSustain v s
  | .setFRelease v => Sys2Proof.Machine.execSetFRelease v s
  | .setCutoff v => Sys2Proof.Machine.execSetCutoff v s
  | .setFEnvEn v => Sys2Proof.Machine.execSetFEnvEn v s
  | .setWaveA v => Sys2Proof.Machine.execSetWaveA v s
  | .setWaveB v => Sys2Proof.Machine.execSetWaveB v s
  | .setWaveC v => Sys2Proof.Machine.execSetWaveC v s
  | .setDetune v => Sys2Proof.Machine.execSetDetune v s
  | .setAmplitude v => Sys2Proof.Machine.execSetAmplitude v s
  | .setLfoTarget v => Sys2Proof.Machine.execSetLfoTarget v s
  | .setLfoWave v => Sys2Proof.Machine.execSetLfoWave v s
  | .setLfoFreq v => Sys2Proof.Machine.execSetLfoFreq v s
  | .setArpEn v => Sys2Proof.Machine.execSetArpEn v s
  | .setBpm v => Sys2Proof.Machine.execSetBpm v s
  | .presetField a v => Sys2Proof.Machine.execPresetField a v s
  | .presetCommit => Sys2Proof.Machine.execPresetCommit s
  | .presetAbort => Sys2Proof.Machine.execPresetAbort s
  | .tick => Sys2Proof.Machine.execTick s

end Sys2Proof.Machine
end

