-- ==== Sys2Proof/Machine/Telemetry.lean ====
section
/-! DEFINITION. The outputs of the engine other than its samples: `diag`, `smp_valid`, `smp_data` and the read-only
telemetry view (spec/30_encoding.md R81; spec/60_exceptions.md R329), with the preset export that is a read of
registers 0 to 14 (spec/48_parameters.md R250). Pure functions of the state: reading changes nothing (R68). -/

namespace Sys2Proof.Machine

variable {R : Type} {n : Nat}

/-- The output `diag`: the level of `PRESET_ERR` (R29, R81). -/
def diag (s : Synth R n) : Bool := s.presetErr

/-- The outputs `smp_valid` and `smp_data`; in reset no sample is offered (R81, R84, R340). -/
def smpPort (s : Synth R n) : Option Sample := if s.rst then none else s.smpOut

/-- The value of a parameter register as telemetry shows it. -/
inductive ParamValue (R : Type) where
  | num (x : R)
  | bool (b : Bool)
  | wave (w : Waveform)
  | target (t : LfoTarget)
  deriving DecidableEq, Repr

/-- The parameter register of an id (R30); ids above 19 are no register. -/
def Params.get (p : Params R) : Nat → Option (ParamValue R)
  | 0 => some (.num p.attack)
  | 1 => some (.num p.decay)
  | 2 => some (.num p.sustain)
  | 3 => some (.num p.release)
  | 4 => some (.num p.fAttack)
  | 5 => some (.num p.fDecay)
  | 6 => some (.num p.fSustain)
  | 7 => some (.num p.fRelease)
  | 8 => some (.num p.cutoff)
  | 9 => some (.bool p.fEnvEn)
  | 10 => some (.wave p.waveA)
  | 11 => some (.wave p.waveB)
  | 12 => some (.wave p.waveC)
  | 13 => some (.num p.detune)
  | 14 => some (.num p.amplitude)
  | 15 => some (.target p.lfoTarget)
  | 16 => some (.wave p.lfoWave)
  | 17 => some (.num p.lfoFreq)
  | 18 => some (.bool p.arpEn)
  | 19 => some (.num p.bpm)
  | _ => none

/-- The value a register write carries. -/
def ParamWrite.value : ParamWrite R → ParamValue R
  | .attack x => .num x
  | .decay x => .num x
  | .sustain x => .num x
  | .release x => .num x
  | .fAttack x => .num x
  | .fDecay x => .num x
  | .fSustain x => .num x
  | .fRelease x => .num x
  | .cutoff x => .num x
  | .fEnvEn b => .bool b
  | .waveA w => .wave w
  | .waveB w => .wave w
  | .waveC w => .wave w
  | .detune x => .num x
  | .amplitude x => .num x
  | .lfoTarget t => .target t
  | .lfoWave w => .wave w
  | .lfoFreq x => .num x
  | .arpEn b => .bool b
  | .bpm x => .num x

/-- The minimum of R81 and R329: per slot the note and the pressed flag, and every parameter register. -/
def telemetry (s : Synth R n) : List (Int × Bool) × List (Option (ParamValue R)) :=
  (s.pool.toList.map fun v => (v.note, v.pressed), (List.range 20).map s.params.get)

/-- Preset export: registers 0 to 14 (R82, R250). -/
def presetExport (s : Synth R n) : List (Option (ParamValue R)) := (List.range FIELDS).map s.params.get

end Sys2Proof.Machine
end

