-- ==== Sys2Proof/Machine/Step.lean ====
section
/-! DEFINITION. One step of the engine with its ports (spec/30_encoding.md R81, R84; spec/70_reset_and_hazards.md R340):
reset while `rst` is asserted; else the hand-off of a sample that stands on the port; else the next command word; else
nothing, the state held (spec/60_exceptions.md R330). -/

namespace Sys2Proof.Machine

/-- One step. A word that selects no row executes as `NOP` (R89). -/
def step (s : State) : Host.Outcome State Fault Refusal :=
  if s.rst then .next ⟨applyReset engine s.toSynth⟩
  else
    match s.smpOut with
    | some y => .next ⟨handOff y s.toSynth⟩
    | none =>
      match fetch s.toSynth with
      | none => .next s
      | some (w, s') => exec (decodeOrNop w) ⟨s'⟩

/-- The state with the table word `w` of `nbits` bits as the command word the next step takes. -/
def State.withFetchWord (s : State) (nbits w : Nat) : State :=
  ⟨offerWord s.toSynth (BitVec.ofNat 32 (w % 2 ^ nbits))⟩

end Sys2Proof.Machine
end

