-- ==== Sys2Proof/Machine/Commands.lean ====
section
/-! DEFINITION. The engine for any configuration record (spec/00_scope.md R9, R10): every command and the step with its
ports, over any realisation of `NUM` and any size of the pool. The machine of Dispatch.lean and Step.lean is this one
at the configuration `engine`. -/

namespace Sys2Proof.Machine

variable {R : Type} {n : Nat} [NeZero n]

/-- The effect of one command under the configuration `c` (R62, R82). -/
def command (c : Config R n) (i : Instr) (s : Synth R n) : Synth R n :=
  match i with
  | .nop => s
  | .noteOn a v => noteOn c a v s
  | .noteOff a => noteOff a s
  | .ccAttack v => ccAttack c v s
  | .ccDecay v => ccDecay c v s
  | .ccSustain v => ccSustain c v s
  | .ccRelease v => ccRelease c v s
  | .ccCutoff v => ccCutoff c v s
  | .ccWaveA v => ccWaveA c v s
  | .ccWaveB v => ccWaveB c v s
  | .ccWaveC v => ccWaveC c v s
  | .ccDetune v => ccDetune c v s
  | .ccAmplitude v => ccAmplitude c v s
  | .setAttack v => setAttack c v s
  | .setDecay v => setDecay c v s
  | .setSustain v => setSustain c v s
  | .setRelease v => setRelease c v s
  | .setFAttack v => setFAttack c v s
  | .setFDecay v => setFDecay c v s
  | .setFSustain v => setFSustain c v s
  | .setFRelease v => setFRelease c v s
  | .setCutoff v => setCutoff c v s
  | .setFEnvEn v => setFEnvEn c v s
  | .setWaveA v => setWaveA c v s
  | .setWaveB v => setWaveB c v s
  | .setWaveC v => setWaveC c v s
  | .setDetune v => setDetune c v s
  | .setAmplitude v => setAmplitude c v s
  | .setLfoTarget v => setLfoTarget c v s
  | .setLfoWave v => setLfoWave c v s
  | .setLfoFreq v => setLfoFreq c v s
  | .setArpEn v => setArpEn c v s
  | .setBpm v => setBpm c v s
  | .presetField a v => presetField a v s
  | .presetCommit => presetCommit c s
  | .presetAbort => presetAbort s
  | .tick => tick c s

/-- One step under the configuration `c` (R81, R84, R330, R340): reset while `rst` is asserted; else the hand-off of a
sample that stands on the port; else the next command word; else nothing. -/
def stepWith (c : Config R n) (s : Synth R n) : Synth R n :=
  if s.rst then applyReset c s
  else
    match s.smpOut with
    | some y => handOff y s
    | none =>
      match fetch s with
      | none => s
      | some (w, s') => command c (decodeOrNop w) s'

end Sys2Proof.Machine
end

