-- ==== Sys2Proof/Safety.lean ====
section
/-! DEFINITION. The terms of the claims: a safe step (spec/60_exceptions.md R310), what a claim may assume of a
configuration (spec/93_implementation_defined.md section 2, U1), the ideal configuration of spec/00_scope.md R10, the
invariant of spec/10_state.md R40, the retuning of the pool by `apply_detune`, and the samples a state has emitted.

Claims about values are made for exact arithmetic on any ordered field `K` with a floor: the rationals of the machine
and the reals of R10's default are two of them. -/

namespace Sys2Proof

open Machine

/-! ## Configurations -/

/-- Exact arithmetic: the operations of `NUM` are those of the field; nothing is said of the four functions. -/
structure NumOps.Exact {K : Type} [Field K] [LinearOrder K] [FloorRing K] (N : NumOps K) : Prop where
  ofRat : ∀ q : ℚ, N.ofRat q = (q : K)
  add : ∀ x y, N.add x y = x + y
  sub : ∀ x y, N.sub x y = x - y
  mul : ∀ x y, N.mul x y = x * y
  div : ∀ x y, N.div x y = x / y
  lt : ∀ x y, N.lt x y = decide (x < y)
  le : ∀ x y, N.le x y = decide (x ≤ y)
  eq : ∀ x y, N.eq x y = decide (x = y)
  abs : ∀ x, N.abs x = |x|
  floor : ∀ x, N.floor x = ⌊x⌋
  trunc : ∀ x, N.trunc x = truncate x

/-- The numbers every `NUM` represents and compares exactly (U1 item 1). -/
def Representable (rate : Nat) (q : ℚ) : Prop :=
  q ∈ ([0, 1, -1, 1 / 2, 2, 3, 4, 5, 8, 12, 60, 127, 128, 440, 32767, (rate : ℚ)] : List ℚ) ∨
    (∃ v : Half, q = (v.toInt : ℚ) / 4096) ∨ (∃ v : Half, q = (v.toNat : ℚ) / 256) ∨
    ∃ v : Half, q = (v.toNat : ℚ) / 16

/-- The properties U1 asks of every realisation of `NUM`, in the realisation's own operations: its items 1 to 8. -/
structure Config.Admissible {R : Type} {n : Nat} (c : Config R n) : Prop where
  /-- Item 1. -/
  lt_exact : ∀ p q, Representable c.rate p → Representable c.rate q →
    c.num.lt (c.num.ofRat p) (c.num.ofRat q) = decide (p < q)
  /-- Item 1. -/
  le_exact : ∀ p q, Representable c.rate p → Representable c.rate q →
    c.num.le (c.num.ofRat p) (c.num.ofRat q) = decide (p ≤ q)
  /-- Item 1. -/
  eq_exact : ∀ p q, Representable c.rate p → Representable c.rate q →
    c.num.eq (c.num.ofRat p) (c.num.ofRat q) = decide (p = q)
  /-- Item 2. -/
  sin_zero : c.num.sin2pi (c.num.ofRat 0) = c.num.ofRat 0
  /-- Item 2. -/
  sin_quarter : c.num.sin2pi (c.num.ofRat (1 / 4)) = c.num.ofRat 1
  /-- Item 2. -/
  sin_half : c.num.sin2pi (c.num.ofRat (1 / 2)) = c.num.ofRat 0
  /-- Item 2. -/
  sin_three_quarters : c.num.sin2pi (c.num.ofRat (3 / 4)) = c.num.ofRat (-1)
  /-- Item 2. -/
  sin_bound : ∀ p, c.num.le (c.num.abs (c.num.sin2pi p)) (c.num.ofRat 1) = true
  /-- Item 3. -/
  pow2_zero : c.num.pow2 (c.num.ofRat 0) = c.num.ofRat 1
  /-- Item 3, for the notes whose octave is a note. -/
  octave : ∀ m : Nat, m + 12 ≤ 127 →
    c.num.le (c.num.abs (c.num.sub (c.noteFreq (m + 12)) (c.num.mul (c.num.ofRat 2) (c.noteFreq m))))
      (c.num.mul (c.num.ofRat (1 / 10 ^ 9)) (c.noteFreq m)) = true
  /-- Item 4. -/
  sqrt_one : c.num.sqrt (c.num.ofRat 1) = c.num.ofRat 1
  /-- Item 4. -/
  sqrt_four : c.num.sqrt (c.num.ofRat 4) = c.num.ofRat 2
  /-- Item 4. -/
  one_le_sqrt : ∀ m : Nat, 1 ≤ m → c.num.le (c.num.ofRat 1) (c.num.sqrt (c.num.ofRat m)) = true
  /-- Item 5. -/
  frac_range : ∀ x, c.num.le (c.num.ofRat 0) (frac c.num x) = true ∧ c.num.lt (frac c.num x) (c.num.ofRat 1) = true
  /-- Item 6. -/
  clamp_range : ∀ x lo hi, c.num.le lo hi = true →
    c.num.le lo (clamp c.num x lo hi) = true ∧ c.num.le (clamp c.num x lo hi) hi = true
  /-- Item 7. -/
  trunc_range : ∀ y, c.num.le (c.num.abs y) (c.num.ofRat 1) = true →
    |c.num.trunc (c.num.mul y (c.num.ofRat 32767))| ≤ 32767
  /-- Item 8. -/
  add_mono : ∀ x y z, c.num.le x y = true →
    c.num.le (c.num.add x z) (c.num.add y z) = true ∧ c.num.le (c.num.add z x) (c.num.add z y) = true
  /-- Item 8, for a factor that is not negative. -/
  mul_mono : ∀ x y z, c.num.le x y = true → c.num.le (c.num.ofRat 0) z = true →
    c.num.le (c.num.mul x z) (c.num.mul y z) = true ∧ c.num.le (c.num.mul z x) (c.num.mul z y) = true

namespace Machine

section Claims

variable {K : Type} [Field K] [LinearOrder K] {n : Nat}

/-- A phase, in `[0,1)` (R40 item 1). -/
abbrev PhaseOk (x : K) : Prop := 0 ≤ x ∧ x < 1

/-- A value in `[0,1]`. -/
abbrev UnitOk (x : K) : Prop := 0 ≤ x ∧ x ≤ 1

/-- A value in `[-1,1]`. -/
abbrev SignalOk (x : K) : Prop := -1 ≤ x ∧ x ≤ 1

/-- An envelope: output in `[0,1]`, and 0 when Idle (R40 item 2). -/
structure Envelope.Ok (e : Envelope K) : Prop where
  out : UnitOk e.out
  idle : e.state = .idle → e.out = 0

/-- The block of an envelope in its legal ranges (R30, R33). -/
structure Adsr.Ok (p : Adsr K) : Prop where
  a : 0 ≤ p.a ∧ p.a ≤ 2
  d : 0 ≤ p.d ∧ p.d ≤ 2
  s : UnitOk p.s
  r : UnitOk p.r

/-- Every parameter register in its legal range (R40 item 3, R30); the enumerations are legal by their types. -/
structure Params.Ok (p : Params K) : Prop where
  adsr : p.adsr.Ok
  fAdsr : p.fAdsr.Ok
  cutoff : UnitOk p.cutoff
  detune : UnitOk p.detune
  amplitude : UnitOk p.amplitude
  lfoFreq : 0 ≤ p.lfoFreq ∧ p.lfoFreq ≤ 65535 / 256
  bpm : 0 ≤ p.bpm ∧ p.bpm ≤ 65535 / 16

end Claims

end Machine

/-- What a claim about every exact configuration may assume of it: exact arithmetic, the named properties of U1, and
the premises R176, R181, R212, R342 and D7 add. -/
structure Config.Legal {K : Type} [Field K] [LinearOrder K] [FloorRing K] {n : Nat} (c : Config K n) : Prop where
  exact : c.num.Exact
  /-- The tempo increment `(65535/16)/(60·RATE)` is below 1 (R212). -/
  rate_large : 69 ≤ c.rate
  /-- U1 item 2. -/
  sin_zero : c.num.sin2pi 0 = 0
  /-- U1 item 2. -/
  sin_quarter : c.num.sin2pi (1 / 4) = 1
  /-- U1 item 2. -/
  sin_half : c.num.sin2pi (1 / 2) = 0
  /-- U1 item 2. -/
  sin_three_quarters : c.num.sin2pi (3 / 4) = -1
  /-- U1 item 2. -/
  sin_bound : ∀ p, |c.num.sin2pi p| ≤ 1
  /-- U1 item 3. -/
  pow2_zero : c.num.pow2 0 = 1
  /-- U1 item 3, for the notes whose octave is a note. -/
  octave : ∀ m : Nat, m + 12 ≤ 127 → |c.noteFreq (m + 12) - 2 * c.noteFreq m| ≤ c.noteFreq m / 10 ^ 9
  /-- The premise of R176 that `A4_REFERENCE ≤ 77` stands for: no note is below 5 Hz. -/
  freq_floor : ∀ m : Nat, m ≤ 127 → 5 ≤ c.noteFreq m
  /-- U1 item 4. -/
  sqrt_one : c.num.sqrt 1 = 1
  /-- U1 item 4. -/
  sqrt_four : c.num.sqrt 4 = 2
  /-- U1 item 4. -/
  one_le_sqrt : ∀ m : Nat, 1 ≤ m → 1 ≤ c.num.sqrt m
  /-- R182: the coefficient of a positive cutoff is positive. -/
  pi_pos : 0 < c.num.pi
  /-- R114: the Decay target is a level. -/
  target_level : ∀ d s r, 0 ≤ r → r ≤ 1 → 0 ≤ c.decayTarget0 d s r ∧ c.decayTarget0 d s r ≤ 1
  /-- U1 item 7. -/
  quant_bound : ∀ y : K, |y| ≤ 1 → |c.quantRound (y * c.fullScale)| ≤ c.fullScale
  /-- The scale fits the s16 of R233. -/
  full_scale_le : c.fullScale ≤ 32767
  /-- The start-up patch is in the ranges of R30, as R342 asks. -/
  reset_params : c.resetParams.Ok

namespace Machine

/-- The default `NUM` of R10: the real numbers, with the real sine, power, root and π. -/
noncomputable def idealNum : NumOps ℝ :=
  exactNum (fun p => Real.sin (2 * Real.pi * p)) (fun x => (2 : ℝ) ^ x) Real.sqrt Real.pi

/-- The ideal engine: every field of R9 at the spec's default, `NUM` included. -/
noncomputable def idealEngine : Config ℝ VOICES := defaultConfig idealNum

/-! ## States -/

/-- A step that raises nothing and declines nothing (R310). -/
def Safe (s : State) : Prop := ∃ t, step s = .next t

section Claims

variable {K : Type} [Field K] [LinearOrder K] {n : Nat}

/-- A voice record: items 1, 2 and 4 of R40, and "frequency is always non-negative" of item 5. -/
structure Voice.Ok (v : Voice K) : Prop where
  note : v.note = -1 ∨ (0 ≤ v.note ∧ v.note ≤ 127)
  vel : v.vel = 0 ∨ ∃ m : Nat, 1 ≤ m ∧ m ≤ 127 ∧ v.vel = (m : K) / 127
  env : v.env.Ok
  phase0 : PhaseOk v.osc0.phase
  phase1 : PhaseOk v.osc1.phase
  phase2 : PhaseOk v.osc2.phase
  freq0 : 0 ≤ v.osc0.freq
  freq1 : 0 ≤ v.osc1.freq
  freq2 : 0 ≤ v.osc2.freq

/-- The frequencies of a voice are those of its note with the effective detune `det` (R175). -/
def Voice.Tuned (c : Config K n) (det : K) (v : Voice K) : Prop :=
  v.osc0.freq = c.noteFreq v.note ∧ v.osc1.freq = c.noteFreq v.note + 5 * det ∧
    v.osc2.freq = c.noteFreq v.note - 5 * det

/-- The pool in arpeggio mode (R40 item 6, R160): pressed is assigned, and the pressed voices come first, in
ascending order of note. -/
def Pool.ArpOrdered {R : Type} (p : Pool R n) : Prop :=
  (∀ i : Fin n, p[i].pressed = true ↔ p[i].note ≠ -1) ∧
    ∀ i j : Fin n, i < j → p[j].pressed = true → p[i].pressed = true ∧ p[i].note ≤ p[j].note

/-- The invariant of R40, with the ranges R34 and R35 give the shadows and the filter memory. -/
structure Inv (c : Config K n) (s : Synth K n) : Prop where
  voice : ∀ i : Fin n, s.pool[i].Ok
  tuned : ∀ i : Fin n, s.pool[i].note ≠ -1 → s.pool[i].Tuned c (effectiveDetune s)
  params : s.params.Ok
  fenv : s.fenv.Ok
  envCutoff : UnitOk s.flt.envCutoff
  lfoCutoff : SignalOk s.flt.lfoCutoff
  prevOut : SignalOk s.flt.prevOut
  prevIn : SignalOk s.flt.prevIn
  lfoPhase : PhaseOk s.lfo.phase
  lfoDetune : SignalOk s.lfo.lfoDetune
  lfoAmp : SignalOk s.lfo.lfoAmp
  arpPhase : PhaseOk s.arp.phase
  arpOrder : s.params.arpEn = true → s.pool.ArpOrdered

/-- `q` is `p` after `apply_detune` with the effective detune `det`: an assigned voice gets the frequencies of R173 and
keeps every other field, an unassigned one keeps all (R174). -/
def Retuned (c : Config K n) (det : K) (p q : Pool K n) : Prop :=
  ∀ i : Fin n,
    (p[i].note = -1 → q[i] = p[i]) ∧
    (p[i].note ≠ -1 →
      q[i] = { p[i] with
        osc0 := { p[i].osc0 with freq := c.noteFreq p[i].note }
        osc1 := { p[i].osc1 with freq := c.noteFreq p[i].note + 5 * det }
        osc2 := { p[i].osc2 with freq := c.noteFreq p[i].note - 5 * det } })

end Claims

section Ports

variable {R : Type} {n : Nat}

/-- The samples emitted so far, oldest first: those the sink has taken and the one on the port (R74). -/
def emitted (s : Synth R n) : List Sample := s.sink ++ s.smpOut.toList

/-- The next step takes a TICK from the command port. -/
def TakesTick (s : Synth R n) : Prop :=
  s.rst = false ∧ s.smpOut = none ∧ ∃ w ws, s.cmdIn = w :: ws ∧ decode w = .ok .tick

/-- Two states that differ at most in the preset staging and its flag (R37). -/
def SameSound (s t : Synth R n) : Prop := t = ((s.setStg t.stg).setStgv t.stgv).setPresetErr t.presetErr

end Ports

end Machine

end Sys2Proof
end

