-- ==== Sys2Proof/Certificates/Slice0/Obligations.lean ====
section
/-! DEFINITION. The statements for the provers. OBLIGATIONS.json lists them with the rules they formalise. -/

open Sys2Proof Sys2Proof.Machine

/-! ## Encoding -/

/-- A sanity statement: words of spec/95_test_vectors.md and of the rules' examples decode to the commands they
stand for (R80, R82, R91; T30-1 to T30-12). -/
def Obligations.SpecWordsDecode : Prop :=
  decode 0x00ABCDEF#32 = .ok .nop ∧ decode 0x01450064#32 = .ok (.noteOn 69 100) ∧
    decode 0x02450000#32 = .ok (.noteOff 69) ∧ decode 0x030A0020#32 = .ok (.ccWaveA 32) ∧
    decode 0x0411AC44#32 = .ok (.setLfoFreq 0xAC44) ∧ decode 0x05080800#32 = .ok (.presetField 8 0x0800) ∧
    decode 0x06000000#32 = .ok .presetCommit ∧ decode 0x07000000#32 = .ok .presetAbort ∧
    decode 0x08FFFFFF#32 = .ok .tick ∧ decode 0x09000000#32 = .error (.opcode 9) ∧
    decode 0x03040040#32 = .error (.ccId 4) ∧ decode 0x04140001#32 = .error (.setId 20)

/-- Decoding undoes encoding for every command with every operand value its fields admit (R80, R82, R91, R93), as words
and as the bytes of a transport, least-significant byte first on both ports (R65). -/
def Obligations.DecodeUndoesEncode : Prop :=
  (∀ i : Instr, decode (encode i) = .ok i) ∧
    (∀ (i : Instr) (rest : List Byte), decodeBytes (bytesOfWord (encode i) ++ rest) = .ok (i, rest)) ∧
    (∀ b0 b1 b2 b3 : Byte, (wordOfBytes b0 b1 b2 b3).toNat =
      b0.toNat + 256 * b1.toNat + 256 ^ 2 * b2.toNat + 256 ^ 3 * b3.toNat) ∧
    ∀ b0 b1 : Byte, (sampleOfBytes b0 b1).toNat = b0.toNat + 256 * b1.toNat ∧
      bytesOfSample (sampleOfBytes b0 b1) = [b0, b1]

/-- R90: two words that differ only in fields their command ignores decode alike, and the assembler writes those
fields as 0: encoding undoes decoding up to them. -/
def Obligations.UnusedFieldsAreIgnored : Prop :=
  (∀ (w w' : Word) (i : Instr), decode w = .ok i → w &&& i.usedMask = w' &&& i.usedMask → decode w' = .ok i) ∧
    ∀ (w : Word) (i : Instr), decode w = .ok i → encode i = w &&& i.usedMask

/-- The opcode table of R96: its masks, its disjointness, and that decoding is row selection; NOTE_ON and NOTE_OFF
match on `OP` only, and a word that selects no row executes as `NOP`. -/
def Obligations.DecodingIsRowSelection : Prop :=
  (∀ r ∈ opcodeTable, r.mask = 0xFF000000#32 ∨ r.mask = 0xFFFF0000#32) ∧
    (∀ i : Instr, i.row.mask = 0xFFFF0000#32 ↔ (opField (encode i) = 3 ∨ opField (encode i) = 4)) ∧
    (∀ (w : Word), ∀ r ∈ opcodeTable, ∀ r' ∈ opcodeTable, r.selects w = true → r'.selects w = true → r = r') ∧
    (∀ (w : Word) (i : Instr), decode w = .ok i → i.row ∈ opcodeTable ∧ i.row.selects w = true) ∧
    (∀ (w : Word), ∀ r ∈ opcodeTable, r.selects w = true → ∃ i, decode w = .ok i ∧ i.row = r) ∧
    (∀ w : Word, (∀ r ∈ opcodeTable, r.selects w = false) → decodeOrNop w = .nop)

/-! ## The step and the ports -/

/-- A step takes the command word at the head of the port and is `exec` of the command it decodes to, on the state
without that word. The machine is the engine of R9 at its own configuration: `exec` and `step` are `command` and
`stepWith` at `engine`. -/
def Obligations.StepRunsTheDecodedCommand : Prop :=
  (∀ (s : State) (w : Word) (ws : List Word) (i : Instr),
    s.rst = false → s.smpOut = none → s.cmdIn = w :: ws → decode w = .ok i →
      step s = exec i { s with cmdIn := ws }) ∧
    (∀ (i : Instr) (s : State), exec i s = .next ⟨command engine i s.toSynth⟩) ∧
    ∀ s : State, step s = .next ⟨stepWith engine s.toSynth⟩

/-- R247 and R89: `NOP` changes nothing at all, and every encoding of R89's table executes as `NOP`: the word is taken
and nothing else changes. -/
def Obligations.ReservedWordsExecuteAsNop : Prop :=
  (∀ s : State, exec .nop s = .next s) ∧
  ∀ (s : State) (w : Word) (ws : List Word), s.rst = false → s.smpOut = none → s.cmdIn = w :: ws →
    (9 ≤ (opField w).toNat ∨
      (opField w = 3 ∧ (aField w).toNat ∉ [0, 1, 2, 3, 8, 10, 11, 12, 13, 14]) ∨
      (opField w = 4 ∧ 20 ≤ (aField w).toNat) ∨
      (opField w = 5 ∧ 15 ≤ (aField w).toNat) ∨
      ((opField w = 1 ∨ opField w = 2) ∧ 128 ≤ (aField w).toNat)) →
    step s = .next { s with cmdIn := ws }

/-- While `rst` is asserted every step leaves every field of the engine at its reset value, takes no word and
withdraws a sample on the port (R340); under any configuration the parameter registers get its `RESET_PARAMS` (R342). -/
def Obligations.ResetInputRestoresResetState : Prop :=
  (∀ s : State, s.rst = true → ∃ t, step s = .next t ∧
    t = { State.reset with rst := true, cmdIn := s.cmdIn, smpReady := s.smpReady, sink := s.sink } ∧
    t.smpOut = none ∧ smpPort t.toSynth = none ∧ cmdReady t.toSynth = false) ∧
  ∀ (R : Type) (n : Nat) [NeZero n] (c : Config R n) (s : Synth R n), s.rst = true →
    (stepWith c s).params = c.resetParams ∧
      stepWith c s = { Synth.reset c with rst := true, cmdIn := s.cmdIn, smpReady := s.smpReady, sink := s.sink }

/-- A sample on the port goes to the sink when it is ready; while it is not, the engine waits and takes no command
(R84, R74). With nothing on either port the state is held (R330). -/
def Obligations.SampleWaitsForTheSink : Prop :=
  ∀ s : State, s.rst = false →
    (∀ y, s.smpOut = some y → s.smpReady = true → step s = .next { s with smpOut := none, sink := s.sink ++ [y] }) ∧
    (∀ y, s.smpOut = some y → s.smpReady = false → step s = .next s) ∧
    (s.smpOut = none → s.cmdIn = [] → step s = .next s)

/-- Outside reset, a step emits exactly one sample when it takes a TICK and none otherwise, and the samples emitted
before stay, in order: none dropped, none duplicated (R74). -/
def Obligations.OneSamplePerTickInOrder : Prop :=
  ∀ s t : State, s.rst = false → step s = .next t →
    (TakesTick s.toSynth → ∃ y, emitted t.toSynth = emitted s.toSynth ++ [y]) ∧
      (¬TakesTick s.toSynth → emitted t.toSynth = emitted s.toSynth)

/-- No command traps, faults or is declined, in any state (R310). -/
def Obligations.EveryStepIsSafe : Prop :=
  (∀ s : State, Safe s) ∧ ∀ (i : Instr) (s : State), ∃ t, exec i s = .next t

/-- The reset state holds the values of R341 and R342 in every field of the engine. -/
def Obligations.ResetValues : Prop :=
  (∀ i : Fin VOICES, State.reset.pool[i] =
    { note := -1, pressed := false, vel := 0, osc0 := ⟨0, 0⟩, osc1 := ⟨0, 0⟩, osc2 := ⟨0, 0⟩, env := ⟨.idle, 0⟩ }) ∧
  State.reset.params =
    { attack := 0, decay := 0, sustain := 1, release := 0, fAttack := 0, fDecay := 0, fSustain := 1, fRelease := 0,
      cutoff := 1, fEnvEn := false, waveA := .sine, waveB := .sine, waveC := .sine, detune := 0, amplitude := 1,
      lfoTarget := .off, lfoWave := .sine, lfoFreq := 0, arpEn := false, bpm := 120 } ∧
  State.reset.flt = ⟨0, 0, 0, 0⟩ ∧ State.reset.fenv = ⟨.idle, 0⟩ ∧ State.reset.lfo = ⟨0, 0, 0⟩ ∧
  State.reset.arp = ⟨0, 0⟩ ∧ (∀ i : Fin FIELDS, State.reset.stg[i] = 0 ∧ State.reset.stgv[i] = false) ∧
  State.reset.presetErr = false

/-! ## Invariants -/

/-- The machine's configuration and the ideal one of R10 have every property a claim about all exact configurations
assumes (U1, R176, R342); such a configuration meets U1 in its own operations; and what U1 alone gives, for any
realisation of `NUM` whatever: phases stay in `[0,1)` (R136), and what is clamped is in its range (R185, R231, R252). -/
def Obligations.EngineConfigurationIsLegal : Prop :=
  engine.Legal ∧ idealEngine.Legal ∧
    (∀ (K : Type) [Field K] [LinearOrder K] [IsStrictOrderedRing K] [FloorRing K] (n : Nat) (c : Config K n),
      c.Legal → c.Admissible) ∧
    ∀ (R : Type) (n : Nat) (c : Config R n), c.Admissible →
      (∀ phase f : R, c.num.le (c.num.ofRat 0) (phaseStep c phase f) = true ∧
        c.num.lt (phaseStep c phase f) (c.num.ofRat 1) = true) ∧
      (∀ v : Half, c.num.le (c.num.ofRat 0) (setTime c.num v) = true ∧ c.num.le (setTime c.num v) (c.num.ofRat 2) = true ∧
        c.num.le (c.num.ofRat 0) (setUnit c.num v) = true ∧ c.num.le (setUnit c.num v) (c.num.ofRat 1) = true) ∧
      ∀ (s : Synth R n) (count : Nat) (sum : R),
        c.num.le (c.num.ofRat 0) (resolveCutoff c s) = true ∧ c.num.le (resolveCutoff c s) (c.num.ofRat 1) = true ∧
        c.num.le (c.num.ofRat (-1)) (mixed c count sum s) = true ∧ c.num.le (mixed c count sum s) (c.num.ofRat 1) = true

/-- The invariant of R40 holds at reset, for every legal configuration and its own start-up patch. -/
def Obligations.ResetMeetsInvariant : Prop :=
  ∀ (K : Type) [Field K] [LinearOrder K] [IsStrictOrderedRing K] [FloorRing K] (n : Nat) [NeZero n] (c : Config K n),
    c.Legal → Inv c (Synth.reset c)

/-- Every step keeps the invariant of R40, from every state that has it. -/
def Obligations.StepKeepsInvariant : Prop :=
  ∀ s t : State, Inv engine s.toSynth → step s = .next t → Inv engine t.toSynth

/-- Every command and every step keep the invariant of R40 for every legal configuration: every ordered field, every
realisation of the numeric functions, every pool size, tuning reference, Decay target and start-up patch. -/
def Obligations.CommandsKeepInvariantForEveryConfiguration : Prop :=
  ∀ (K : Type) [Field K] [LinearOrder K] [IsStrictOrderedRing K] [FloorRing K] (n : Nat) [NeZero n] (c : Config K n)
    (s : Synth K n), c.Legal → Inv c s → (∀ i : Instr, Inv c (command c i s)) ∧ Inv c (stepWith c s)

/-- In a state of the invariant a TICK's filter output is in `[-1,1]` and the sample on the port is the quantised
output, within ±32767, for every legal configuration (R188, R233). -/
def Obligations.SamplesStayInRange : Prop :=
  ∀ (K : Type) [Field K] [LinearOrder K] [IsStrictOrderedRing K] [FloorRing K] (n : Nat) [NeZero n] (c : Config K n)
    (s : Synth K n), c.Legal → Inv c s →
    SignalOk (tick c s).flt.prevOut ∧
      ∃ y : Sample, (tick c s).smpOut = some y ∧ y.toInt = c.quantRound ((tick c s).flt.prevOut * c.fullScale) ∧
        -32767 ≤ y.toInt ∧ y.toInt ≤ 32767

/-- The engine never emits ±32767: a filter output strictly inside `(-1,1)` stays there, and its sample is within
±32766 (spec/95_test_vectors.md section 1). -/
def Obligations.FullScaleIsNeverReached : Prop :=
  ∀ s : State, Inv engine s.toSynth → -1 < s.flt.prevOut → s.flt.prevOut < 1 → ∃ t y, exec .tick s = .next t ∧
    -1 < t.flt.prevOut ∧ t.flt.prevOut < 1 ∧ t.smpOut = some y ∧ -32766 ≤ y.toInt ∧ y.toInt ≤ 32766

/-! ## The numeric functions -/

/-- `PI`, `SQRT` on the voice counts and `F` on the notes are the real values to within small bounds. The bounds are
the model's (assumption log 1). -/
def Obligations.ConstantsAreNearIdeal : Prop :=
  |((engine.num.pi : ℚ) : ℝ) - Real.pi| ≤ 1 / 10 ^ 19 ∧
    (∀ n : Nat, 1 ≤ n → n ≤ 6 → |((engine.num.sqrt n : ℚ) : ℝ) - Real.sqrt n| ≤ 1 / 10 ^ 18) ∧
    ∀ n : Nat, n ≤ 127 →
      |((engine.noteFreq n : ℚ) : ℝ) - 440 * (2 : ℝ) ^ (((n : ℝ) - 57) / 12)| ≤ 1 / 10 ^ 13

/-- `SIN2PI(p)` is the real sine of `2πp` to within `10^-15` at every rational phase. The bound is the model's
(assumption log 1). -/
def Obligations.SineIsNearIdeal : Prop :=
  ∀ p : ℚ, |((engine.num.sin2pi p : ℚ) : ℝ) - Real.sin (2 * Real.pi * p)| ≤ 1 / 10 ^ 15

/-- The note 57 is 440 Hz exactly, and an octave doubles the frequency exactly (R170, R177). -/
def Obligations.OctavesAreExact : Prop :=
  engine.noteFreq 57 = 440 ∧ engine.noteFreq 69 = 880 ∧ ∀ n : Int, engine.noteFreq (n + 12) = 2 * engine.noteFreq n

/-! ## Envelopes -/

/-- A time of 0 resolves in one advance: Attack goes to Decay at 1 (R113, R125), Decay snaps to its target and leaves
(R114), Release goes to Idle at 0 (R116, R125). -/
def Obligations.ZeroTimesResolveInOneAdvance : Prop :=
  ∀ (K : Type) [Field K] [LinearOrder K] [IsStrictOrderedRing K] [FloorRing K] (n : Nat) (c : Config K n)
    (e : Envelope K) (p : Adsr K), c.num.Exact →
    (e.state = .attack → p.a = 0 → envAdvance c e p = ⟨.decay, 1⟩) ∧
    (e.state = .decay → p.d = 0 → 0 < p.s → envAdvance c e p = ⟨.sustain, p.s⟩) ∧
    (e.state = .decay → p.d = 0 → p.s = 0 → envAdvance c e p = ⟨.release, c.decayTarget0 p.d p.s p.r⟩) ∧
    (e.state = .release → p.r = 0 → envAdvance c e p = ⟨.idle, 0⟩)

/-- Attack rises by `1/(a·RATE)` a call, from the trigger level or any other, and enters Decay, at 1, in the first call
that would reach 1 (R113, R118). -/
def Obligations.AttackRisesLinearly : Prop :=
  ∀ (K : Type) [Field K] [LinearOrder K] [IsStrictOrderedRing K] [FloorRing K] (n : Nat) (c : Config K n)
    (e : Envelope K) (p : Adsr K), c.num.Exact → 0 < c.rate → 0 < p.a →
    envTrigger c e = ⟨.attack, 1 / 1000⟩ ∧
    ∀ (level : K) (m : Nat), level + m / (p.a * c.rate) < 1 →
      (fun e => envAdvance c e p)^[m] ⟨.attack, level⟩ = ⟨.attack, level + m / (p.a * c.rate)⟩ ∧
      (1 ≤ level + ((m : K) + 1) / (p.a * c.rate) →
        (fun e => envAdvance c e p)^[m + 1] ⟨.attack, level⟩ = ⟨.decay, 1⟩)

/-- Decay falls by `(1 - target)/(d·RATE)` a call from any level, as long as it stays above the target; the first call
whose value is at or below the target gives the target and leaves Decay, to Sustain, or to Release when sustain is 0
(R114). So from 1 with `d·RATE = m` a whole number and a target below 1 it lasts `m` calls; and entered at or below the
target, a target of 1 among them, one call. -/
def Obligations.DecayFallsLinearly : Prop :=
  ∀ (K : Type) [Field K] [LinearOrder K] [IsStrictOrderedRing K] [FloorRing K] (n : Nat) (c : Config K n)
    (p : Adsr K) (level : K), c.num.Exact → 0 < p.d →
    let target := if 0 < p.s then p.s else c.decayTarget0 p.d p.s p.r
    let next : EnvState := if 0 < p.s then .sustain else .release
    let fall := (1 - target) / (p.d * c.rate)
    (∀ m : Nat, (∀ k : Nat, 1 ≤ k → k ≤ m → target < level - k * fall) →
      (fun e => envAdvance c e p)^[m] ⟨.decay, level⟩ = ⟨.decay, level - m * fall⟩ ∧
      (level - ((m : K) + 1) * fall ≤ target →
        (fun e => envAdvance c e p)^[m + 1] ⟨.decay, level⟩ = ⟨next, target⟩)) ∧
    (∀ m : Nat, 0 < m → p.d * c.rate = m → target < 1 →
      (∀ k < m, (fun e => envAdvance c e p)^[k] ⟨.decay, 1⟩ = ⟨.decay, 1 - k * ((1 - target) / m)⟩) ∧
      (fun e => envAdvance c e p)^[m] ⟨.decay, 1⟩ = ⟨next, target⟩) ∧
    (level ≤ target → target ≤ 1 → envAdvance c ⟨.decay, level⟩ p = ⟨next, target⟩)

/-- Release falls geometrically by the factor `q = 1 - 1/(r·RATE)` a call, and is Idle with output 0 at the first
call whose output would be at most 1/1000 (R116). -/
def Obligations.ReleaseFallsGeometrically : Prop :=
  ∀ (K : Type) [Field K] [LinearOrder K] [IsStrictOrderedRing K] [FloorRing K] (n : Nat) (c : Config K n)
    (p : Adsr K) (level : K) (m : Nat), c.num.Exact → 0 < c.rate → 0 < p.r →
    let q := 1 - 1 / (p.r * c.rate)
    (∀ k, 1 ≤ k → k ≤ m → 1 / 1000 < level * q ^ k) →
    (fun e => envAdvance c e p)^[m] ⟨.release, level⟩ = ⟨.release, level * q ^ m⟩ ∧
    (level * q ^ (m + 1) ≤ 1 / 1000 → (fun e => envAdvance c e p)^[m + 1] ⟨.release, level⟩ = ⟨.idle, 0⟩)

/-- R112: a call in Idle gives output 0 and stays in Idle, and of the two events only `env_trigger` leaves Idle. R115:
in Sustain with a sustain level above 0 the output is that level after every call; with 0 the Release arm runs in the
same call. -/
def Obligations.SustainHoldsOrReleases : Prop :=
  ∀ (K : Type) [Field K] [LinearOrder K] [IsStrictOrderedRing K] [FloorRing K] (n : Nat) (c : Config K n)
    (p : Adsr K) (level : K), c.num.Exact →
    (envAdvance c ⟨.idle, level⟩ p = ⟨.idle, 0⟩ ∧ (envRelease ⟨.idle, level⟩ : Envelope K) = ⟨.idle, level⟩ ∧
      (envTrigger c ⟨.idle, level⟩).state = .attack) ∧
    (p.s ≠ 0 → envAdvance c ⟨.sustain, level⟩ p = ⟨.sustain, p.s⟩) ∧
    (p.s = 0 → envAdvance c ⟨.sustain, level⟩ p = envAdvance c ⟨.release, level⟩ p)

/-- R121 and R122: every envelope operation keeps the output in `[0,1]`, and 0 when Idle. -/
def Obligations.EnvelopesStayInRange : Prop :=
  ∀ (K : Type) [Field K] [LinearOrder K] [IsStrictOrderedRing K] [FloorRing K] (n : Nat) (c : Config K n)
    (e : Envelope K) (p : Adsr K), c.Legal → p.Ok → e.Ok →
    (envAdvance c e p).Ok ∧ (envTrigger c e).Ok ∧ (envRelease e).Ok

/-- R123: within one state the output is non-decreasing in Attack and non-increasing in Decay and Release. -/
def Obligations.EnvelopesAreMonotone : Prop :=
  ∀ (K : Type) [Field K] [LinearOrder K] [IsStrictOrderedRing K] [FloorRing K] (n : Nat) (c : Config K n)
    (e : Envelope K) (p : Adsr K), c.Legal → p.Ok → e.Ok → (envAdvance c e p).state = e.state →
    (e.state = .attack → e.out ≤ (envAdvance c e p).out) ∧
    (e.state = .decay → (envAdvance c e p).out ≤ e.out) ∧
    (e.state = .release → (envAdvance c e p).out ≤ e.out)

/-! ## Oscillators and the LFO -/

/-- R132 to R137, the four waveforms, and R138: every waveform is in `[-1,1]` on `[0,1)`. -/
def Obligations.WaveformsStayInRange : Prop :=
  ∀ (K : Type) [Field K] [LinearOrder K] [IsStrictOrderedRing K] [FloorRing K] (n : Nat) (c : Config K n) (p : K),
    c.Legal → PhaseOk p →
    wave c.num .sine p = c.num.sin2pi p ∧ wave c.num .square p = (if p < 1 / 2 then 1 else -1) ∧
    wave c.num .triangle p = 1 - 4 * abs (p - 1 / 2) ∧ wave c.num .sawtooth p = 2 * p - 1 ∧
    ∀ w : Waveform, SignalOk (wave c.num w p)

/-- `m` steps at a constant frequency put the phase at `frac(phase + m·f/RATE)`, which is in `[0,1)`; when `m·f/RATE`
is a whole number the phase is back where it was (R136, R141). -/
def Obligations.PhaseAccumulates : Prop :=
  ∀ (K : Type) [Field K] [LinearOrder K] [IsStrictOrderedRing K] [FloorRing K] (n : Nat) (c : Config K n)
    (phase f : K) (m : Nat), c.num.Exact → PhaseOk phase →
    (fun p => phaseStep c p f)^[m] phase = Int.fract (phase + m * (f / c.rate)) ∧
    PhaseOk ((fun p => phaseStep c p f)^[m] phase) ∧
    ((∃ k : Int, (m : K) * (f / c.rate) = k) → (fun p => phaseStep c p f)^[m] phase = phase)

/-- R197: the LFO's multiplier is `|sin|` and `|triangle|` in `[0,1]`, the square ±1, the sawtooth `2p - 1` in
`[-1,1)`. -/
def Obligations.LfoMultiplierIsRectified : Prop :=
  ∀ (K : Type) [Field K] [LinearOrder K] [IsStrictOrderedRing K] [FloorRing K] (n : Nat) (c : Config K n) (p : K),
    c.Legal → PhaseOk p →
    lfoMultiplier c.num .sine p = |c.num.sin2pi p| ∧ UnitOk (lfoMultiplier c.num .sine p) ∧
    lfoMultiplier c.num .triangle p = abs (1 - 4 * abs (p - 1 / 2)) ∧ UnitOk (lfoMultiplier c.num .triangle p) ∧
    lfoMultiplier c.num .square p = (if p < 1 / 2 then 1 else -1) ∧
    lfoMultiplier c.num .sawtooth p = 2 * p - 1 ∧ -1 ≤ lfoMultiplier c.num .sawtooth p ∧
    lfoMultiplier c.num .sawtooth p < 1

/-- What `lfo_update` does in every TICK, in both modes: the phase advances whatever the target is (R199), only the
selected target's shadow is written, with the product of the multiplier at the old phase and the base register
(R196, R198), and a Detune target ends with `apply_detune` (R201): it retunes the assigned voices, and the frequencies
of an unassigned voice, in a release tail or not, stay as they are (R174). -/
def Obligations.TickRoutesTheLfo : Prop :=
  ∀ s : State, ∃ t, exec .tick s = .next t ∧
    let m := lfoMultiplier engine.num s.params.lfoWave s.lfo.phase
    t.lfo.phase = Int.fract (s.lfo.phase + s.params.lfoFreq / 44100) ∧
    t.flt.lfoCutoff = (if s.params.lfoTarget = .cutoff then m * s.params.cutoff else s.flt.lfoCutoff) ∧
    t.lfo.lfoDetune = (if s.params.lfoTarget = .detune then m * s.params.detune else s.lfo.lfoDetune) ∧
    t.lfo.lfoAmp = (if s.params.lfoTarget = .amplitude then m * s.params.amplitude else s.lfo.lfoAmp) ∧
    (s.params.lfoTarget = .detune → ∀ i : Fin VOICES, t.pool[i].note ≠ -1 → t.pool[i].Tuned engine t.lfo.lfoDetune) ∧
    ∀ i : Fin VOICES, s.params.lfoTarget ≠ .detune ∨ s.pool[i].note = -1 →
      t.pool[i].osc0.freq = s.pool[i].osc0.freq ∧ t.pool[i].osc1.freq = s.pool[i].osc1.freq ∧
        t.pool[i].osc2.freq = s.pool[i].osc2.freq

/-! ## The voice pool -/

/-- NOTE_ON in non-arpeggio mode (R148 to R150): the reclaim pass cuts every release tail, and the first slot that is
Idle or was in Release takes the note; phases are kept, and the filter's envelope is triggered when enabled. -/
def Obligations.NoteOnTakesTheFirstFreeVoice : Prop :=
  ∀ (s : State) (a : BitVec 8) (v : Half) (i : Fin VOICES), a.toNat ≤ 127 → s.params.arpEn = false →
    (s.pool[i].env.state = .idle ∨ s.pool[i].env.state = .release) →
    (∀ j < i, s.pool[j].env.state ≠ .idle ∧ s.pool[j].env.state ≠ .release) →
    ∃ t, exec (.noteOn a v) s = .next t ∧
      t.pool[i].note = a.toNat ∧ t.pool[i].pressed = true ∧
      t.pool[i].vel = (max 1 (min v.toNat 127) : Nat) / 127 ∧ t.pool[i].env = ⟨.attack, 1 / 1000⟩ ∧
      t.pool[i].Tuned engine (effectiveDetune s.toSynth) ∧
      t.pool[i].osc0.phase = s.pool[i].osc0.phase ∧ t.pool[i].osc1.phase = s.pool[i].osc1.phase ∧
      t.pool[i].osc2.phase = s.pool[i].osc2.phase ∧
      (∀ j ≠ i, t.pool[j] = { s.pool[j] with
        env := if s.pool[j].env.state = .release then ⟨.idle, 0⟩ else s.pool[j].env }) ∧
      t.fenv = (if s.params.fEnvEn then ⟨.attack, 1 / 1000⟩ else s.fenv) ∧
      t = { s with pool := t.pool, fenv := t.fenv }

/-- NOTE_ON in arpeggio mode (R148, R158): the first slot not pressed takes the note, and the pool is sorted. -/
def Obligations.NoteOnInArpeggioModeSorts : Prop :=
  ∀ (s : State) (a : BitVec 8) (v : Half) (i : Fin VOICES), a.toNat ≤ 127 → s.params.arpEn = true →
    s.pool[i].pressed = false → (∀ j < i, s.pool[j].pressed = true) →
    ∃ t w, exec (.noteOn a v) s = .next t ∧ t.pool = poolSort (s.pool.set i w) ∧
      w.note = a.toNat ∧ w.pressed = true ∧ w.vel = (max 1 (min v.toNat 127) : Nat) / 127 ∧
      w.env = ⟨.attack, 1 / 1000⟩ ∧ w.Tuned engine (effectiveDetune s.toSynth) ∧
      w.osc0.phase = s.pool[i].osc0.phase ∧ w.osc1.phase = s.pool[i].osc1.phase ∧
      w.osc2.phase = s.pool[i].osc2.phase ∧
      t.fenv = (if s.params.fEnvEn then ⟨.attack, 1 / 1000⟩ else s.fenv) ∧
      t = { s with pool := t.pool, fenv := t.fenv }

/-- R151: with no free voice the note is dropped and nothing at all changes. In non-arpeggio mode no voice may be in
Release either, since the reclaim pass would free it. -/
def Obligations.NoteOnDropsWhenPoolIsFull : Prop :=
  ∀ (s : State) (a : BitVec 8) (v : Half),
    (s.params.arpEn = false ∧ (∀ i : Fin VOICES, s.pool[i].env.state ≠ .idle ∧ s.pool[i].env.state ≠ .release)) ∨
      (s.params.arpEn = true ∧ ∀ i : Fin VOICES, s.pool[i].pressed = true) →
    exec (.noteOn a v) s = .next s

/-- NOTE_OFF in non-arpeggio mode (R153 to R156): the first slot that holds the note in Attack, Decay or Sustain goes
to Release at its level; note, pressed and everything else stay, and the filter's envelope is released when enabled. -/
def Obligations.NoteOffReleasesTheFirstMatch : Prop :=
  ∀ (s : State) (a : BitVec 8) (i : Fin VOICES), a.toNat ≤ 127 → s.params.arpEn = false →
    s.pool[i].note = a.toNat → s.pool[i].env.state ≠ .idle → s.pool[i].env.state ≠ .release →
    (∀ j < i, s.pool[j].note = a.toNat → s.pool[j].env.state = .idle ∨ s.pool[j].env.state = .release) →
    ∃ t, exec (.noteOff a) s = .next t ∧
      t.pool[i] = { s.pool[i] with env := ⟨.release, s.pool[i].env.out⟩ } ∧ (∀ j ≠ i, t.pool[j] = s.pool[j]) ∧
      t.fenv = (if s.params.fEnvEn ∧ s.fenv.state ≠ .idle then ⟨.release, s.fenv.out⟩ else s.fenv) ∧
      t = { s with pool := t.pool, fenv := t.fenv }

/-- NOTE_OFF in arpeggio mode (R153, R155): the first pressed slot of the note is released, loses its note, and the
pool is sorted. -/
def Obligations.NoteOffInArpeggioModeForgets : Prop :=
  ∀ (s : State) (a : BitVec 8) (i : Fin VOICES), a.toNat ≤ 127 → s.params.arpEn = true →
    s.pool[i].note = a.toNat → s.pool[i].pressed = true →
    (∀ j < i, s.pool[j].note = a.toNat → s.pool[j].pressed = false) →
    ∃ t, exec (.noteOff a) s = .next t ∧
      t.pool = poolSort (s.pool.set i { s.pool[i] with
        note := -1, pressed := false,
        env := if s.pool[i].env.state = .idle then s.pool[i].env else ⟨.release, s.pool[i].env.out⟩ }) ∧
      t.fenv = (if s.params.fEnvEn ∧ s.fenv.state ≠ .idle then ⟨.release, s.fenv.out⟩ else s.fenv) ∧
      t = { s with pool := t.pool, fenv := t.fenv }

/-- NOTE_OFF that finds no sounding voice of the note changes nothing (R153). -/
def Obligations.NoteOffWithoutMatchChangesNothing : Prop :=
  ∀ (s : State) (a : BitVec 8),
    (s.params.arpEn = false → ∀ i : Fin VOICES, s.pool[i].note = a.toNat →
      s.pool[i].env.state = .idle ∨ s.pool[i].env.state = .release) →
    (s.params.arpEn = true → ∀ i : Fin VOICES, s.pool[i].note = a.toNat → s.pool[i].pressed = false) →
    exec (.noteOff a) s = .next s

/-- R159: the sort permutes the records; assigned voices come first in ascending order of note; and records of equal
note, the unassigned ones among them, keep their order. -/
def Obligations.SortIsStableAndAscending : Prop :=
  ∀ (R : Type) (n : Nat) (p : Pool R n), List.Perm (poolSort p).toList p.toList ∧
    (∀ i j : Fin n, i < j → (poolSort p)[j].note ≠ -1 →
      (poolSort p)[i].note ≠ -1 ∧ (poolSort p)[i].note ≤ (poolSort p)[j].note) ∧
    ∀ m : Int, (poolSort p).toList.filter (fun v => decide (v.note = m)) =
      p.toList.filter (fun v => decide (v.note = m))

/-! ## The filter -/

/-- R181 and R182: `alpha(c) = PI·c/(PI·c + 4)`, in `[0,1)` and increasing; at a cutoff of 0 the output is held (R190). -/
def Obligations.FilterCoefficient : Prop :=
  ∀ (K : Type) [Field K] [LinearOrder K] [IsStrictOrderedRing K] [FloorRing K] (n : Nat) (c : Config K n), c.Legal →
    (∀ x : K, 0 ≤ x → alpha c x = c.num.pi * x / (c.num.pi * x + 4) ∧ 0 ≤ alpha c x ∧ alpha c x < 1) ∧
    (∀ x y : K, 0 ≤ x → x < y → alpha c x < alpha c y) ∧
    ∀ (s : Synth K n) (x : K), resolveCutoff c s = 0 → filterOut c x s = s.flt.prevOut

/-- R189: with a constant cutoff and a constant input the error after `m` calls is the first error times
`(1 - alpha)^m`; at cutoff 1 the machine's error from 0 to 1 is below 1/1000 at the twelfth call and not before. -/
def Obligations.FilterStepResponse : Prop :=
  (∀ (K : Type) [Field K] [LinearOrder K] [IsStrictOrderedRing K] [FloorRing K] (n : Nat) (c : Config K n)
    (s : Synth K n) (x : K) (m : Nat), c.num.Exact →
    x - ((filterStep c x)^[m] s).flt.prevOut = (x - s.flt.prevOut) * (1 - alpha c (resolveCutoff c s)) ^ m) ∧
  (1 - alpha engine 1) ^ 12 < 1 / 1000 ∧ 1 / 1000 ≤ (1 - alpha engine 1) ^ 11

/-! ## The arpeggiator -/

/-- R212: from phase 0 the accumulator holds `m·BPM/(60·RATE)` after `m` steps while that is below 1, the index
untouched, and is set to 0, the excess discarded, by the first step that reaches 1. -/
def Obligations.ArpeggiatorPeriod : Prop :=
  ∀ (K : Type) [Field K] [LinearOrder K] [IsStrictOrderedRing K] [FloorRing K] (n : Nat) [NeZero n] (c : Config K n)
    (s : Synth K n) (m : Nat), c.num.Exact → s.arp.phase = 0 → 0 ≤ s.params.bpm →
    let inc := s.params.bpm / (60 * c.rate)
    m * inc < 1 →
    (arpStep c)^[m] s = { s with arp := { s.arp with phase := m * inc } } ∧
    (1 ≤ (m + 1) * inc → ((arpStep c)^[m + 1] s).arp.phase = 0)

/-- TICK in arpeggio mode, written out (R211, R213, R214, R217, R219, R226 to R231, R184 to R187, R233): whether the step
fires, where the index goes, the re-trigger of the voice and of the filter's envelope, the one voice that is rendered,
with no gain, and the filter. `m` is the LFO's multiplier, `v` the voice at the index and `f` the filter's envelope as
the rendering finds them. -/
def Obligations.TickInArpeggioMode : Prop :=
  ∀ s : State, s.params.arpEn = true → ∃ t, exec .tick s = .next t ∧
    let phase := s.arp.phase + s.params.bpm / (60 * 44100)
    let cnt := (Finset.univ.filter fun i : Fin VOICES => s.pool[i].pressed = true).card
    let i := t.arp.index
    let v : Voice ℚ := { s.pool[i] with
      env := if 1 ≤ phase ∧ s.pool[i].pressed = true then ⟨.attack, 1 / 1000⟩ else s.pool[i].env }
    let f : Envelope ℚ := if 1 ≤ phase ∧ s.pool[i].pressed = true then ⟨.attack, 1 / 1000⟩ else s.fenv
    let m := lfoMultiplier engine.num s.params.lfoWave s.lfo.phase
    let amp := if s.params.lfoTarget = .amplitude then m * s.params.amplitude else s.params.amplitude
    let fe := envAdvance engine f s.params.fAdsr
    let cutoff := max 0 (min 1
      (if s.params.lfoTarget = .cutoff then m * s.params.cutoff
       else if s.params.fEnvEn = true then s.params.cutoff + fe.out / 2 else s.params.cutoff))
    (phase < 1 → t.arp = ⟨s.arp.index, phase⟩) ∧
    (1 ≤ phase → t.arp.phase = 0 ∧ (cnt = 0 → i = 0) ∧ (0 < cnt → i.val = (s.arp.index.val + 1) % cnt)) ∧
    t.pool[i].env = envAdvance engine v.env s.params.adsr ∧
    t.pool[i].osc0.phase = Int.fract (s.pool[i].osc0.phase + s.pool[i].osc0.freq / 44100) ∧
    t.pool[i].osc1.phase = Int.fract (s.pool[i].osc1.phase + s.pool[i].osc1.freq / 44100) ∧
    t.pool[i].osc2.phase = Int.fract (s.pool[i].osc2.phase + s.pool[i].osc2.freq / 44100) ∧
    (∀ j ≠ i, t.pool[j].env = s.pool[j].env ∧ t.pool[j].osc0.phase = s.pool[j].osc0.phase ∧
      t.pool[j].osc1.phase = s.pool[j].osc1.phase ∧ t.pool[j].osc2.phase = s.pool[j].osc2.phase) ∧
    t.fenv = (if s.params.fEnvEn = true then fe else s.fenv) ∧
    t.flt.envCutoff =
      (if s.params.fEnvEn = true then max 0 (min 1 (s.params.cutoff + fe.out / 2)) else s.flt.envCutoff) ∧
    t.flt.prevIn = max (-1) (min 1
      ((wave engine.num s.params.waveA v.osc0.phase + wave engine.num s.params.waveB v.osc1.phase +
        wave engine.num s.params.waveC v.osc2.phase) / 3 *
        (envAdvance engine v.env s.params.adsr).out * v.vel * amp)) ∧
    t.flt.prevOut = alpha engine cutoff * t.flt.prevIn + (1 - alpha engine cutoff) * s.flt.prevOut ∧
    t.smpOut = some (BitVec.ofInt 16 (if 0 ≤ t.flt.prevOut then ⌊t.flt.prevOut * 32767⌋ else ⌈t.flt.prevOut * 32767⌉))

/-- R218 and R288: SET.ARP_EN that changes the value resets the pool's bookkeeping, the index and the tempo phase,
keeps the oscillators and all else; one that does not change it does nothing. -/
def Obligations.ArpeggioModeSwitchForgetsNotes : Prop :=
  ∀ (s : State) (v : Half),
    (decide (v ≠ 0) = s.params.arpEn → exec (.setArpEn v) s = .next s) ∧
    (decide (v ≠ 0) ≠ s.params.arpEn → ∃ t, exec (.setArpEn v) s = .next t ∧
      t.params = { s.params with arpEn := decide (v ≠ 0) } ∧ t.arp = ⟨0, 0⟩ ∧
      (∀ i : Fin VOICES, t.pool[i] = { s.pool[i] with note := -1, pressed := false, vel := 0, env := ⟨.idle, 0⟩ }) ∧
      t = { s with params := t.params, pool := t.pool, arp := t.arp })

/-! ## TICK -/

/-- R237: what a TICK writes, and what it never writes. A frequency moves only in an assigned voice, with the target
Detune; a voice that is not eligible keeps its envelope and phases. -/
def Obligations.TickFrame : Prop :=
  ∀ s : State, ∃ t y, exec .tick s = .next t ∧ t.smpOut = some y ∧
    t = { s with pool := t.pool, flt := t.flt, fenv := t.fenv, lfo := t.lfo, arp := t.arp, smpOut := some y } ∧
    (∀ i : Fin VOICES, t.pool[i].note = s.pool[i].note ∧ t.pool[i].pressed = s.pool[i].pressed ∧
      t.pool[i].vel = s.pool[i].vel) ∧
    (∀ i : Fin VOICES, s.params.lfoTarget ≠ .detune ∨ s.pool[i].note = -1 →
      t.pool[i].osc0.freq = s.pool[i].osc0.freq ∧ t.pool[i].osc1.freq = s.pool[i].osc1.freq ∧
        t.pool[i].osc2.freq = s.pool[i].osc2.freq) ∧
    (s.params.fEnvEn = false → t.fenv = s.fenv ∧ t.flt.envCutoff = s.flt.envCutoff) ∧
    (s.params.arpEn = false → t.arp = s.arp ∧ ∀ i : Fin VOICES, s.pool[i].env.state = .idle →
      t.pool[i].env = s.pool[i].env ∧ t.pool[i].osc0.phase = s.pool[i].osc0.phase ∧
      t.pool[i].osc1.phase = s.pool[i].osc1.phase ∧ t.pool[i].osc2.phase = s.pool[i].osc2.phase)

/-- The sample of a TICK in non-arpeggio mode, written out (R226 to R231, R184 to R187, R233, R236): the mean of
three waveforms, times the envelope after its update, times the velocity, summed over the voices that are not Idle;
gain `1/SQRT(N)`, amplitude, clamp; the filter with the cutoff the priorities give; truncation of `32767·y`. -/
def Obligations.TickComputesTheSample : Prop :=
  ∀ s : State, s.params.arpEn = false → ∃ t, exec .tick s = .next t ∧
    let active := Finset.univ.filter fun i : Fin VOICES => s.pool[i].env.state ≠ .idle
    let sum := ∑ i ∈ active,
      (wave engine.num s.params.waveA s.pool[i].osc0.phase + wave engine.num s.params.waveB s.pool[i].osc1.phase +
        wave engine.num s.params.waveC s.pool[i].osc2.phase) / 3 *
        (envAdvance engine s.pool[i].env s.params.adsr).out * s.pool[i].vel
    let gain := if active.card = 0 then 1 else 1 / engine.num.sqrt active.card
    let m := lfoMultiplier engine.num s.params.lfoWave s.lfo.phase
    let amp := if s.params.lfoTarget = .amplitude then m * s.params.amplitude else s.params.amplitude
    let mixed := max (-1) (min 1 (sum * gain * amp))
    let fe := envAdvance engine s.fenv s.params.fAdsr
    let cutoff := max 0 (min 1
      (if s.params.lfoTarget = .cutoff then m * s.params.cutoff
       else if s.params.fEnvEn = true then s.params.cutoff + fe.out / 2 else s.params.cutoff))
    t.flt.prevIn = mixed ∧
    t.flt.prevOut = alpha engine cutoff * mixed + (1 - alpha engine cutoff) * s.flt.prevOut ∧
    t.smpOut = some (BitVec.ofInt 16 (if 0 ≤ t.flt.prevOut then ⌊t.flt.prevOut * 32767⌋ else ⌈t.flt.prevOut * 32767⌉)) ∧
    (s.params.fEnvEn = true → t.fenv = fe ∧ t.flt.envCutoff = max 0 (min 1 (s.params.cutoff + fe.out / 2))) ∧
    ∀ i ∈ active, t.pool[i].env = envAdvance engine s.pool[i].env s.params.adsr ∧
      t.pool[i].osc0.phase = Int.fract (s.pool[i].osc0.phase + s.pool[i].osc0.freq / 44100) ∧
      t.pool[i].osc1.phase = Int.fract (s.pool[i].osc1.phase + s.pool[i].osc1.freq / 44100) ∧
      t.pool[i].osc2.phase = Int.fract (s.pool[i].osc2.phase + s.pool[i].osc2.freq / 44100)

/-- R238: with every envelope Idle in non-arpeggio mode the filter rings down toward 0 by the factor `1 - alpha`, and
from a filter at rest the sample is 0. -/
def Obligations.SilenceRingsDown : Prop :=
  ∀ s : State, s.params.arpEn = false → (∀ i : Fin VOICES, s.pool[i].env.state = .idle) →
    ∃ t, exec .tick s = .next t ∧ t.flt.prevIn = 0 ∧ t.pool.toList.map (·.env) = s.pool.toList.map (·.env) ∧
      t.flt.prevOut = (1 - alpha engine (resolveCutoff engine t.toSynth)) * s.flt.prevOut ∧
      (s.flt.prevOut = 0 → t.smpOut = some 0)

/-- The voice sum and the gain (R227, R228, R230): in a state of the invariant the sum is at most the number of
eligible voices in magnitude, and the gain never amplifies. -/
def Obligations.VoiceSumIsBounded : Prop :=
  ∀ (K : Type) [Field K] [LinearOrder K] [IsStrictOrderedRing K] [FloorRing K] (n : Nat) (c : Config K n)
    (s : Synth K n), c.Legal → Inv c s →
    |voiceSum c s| ≤ eligibleCount s ∧ 0 < gain c s.params (eligibleCount s) ∧ gain c s.params (eligibleCount s) ≤ 1 ∧
      (s.params.arpEn = true → eligibleCount s = 1 ∧ gain c s.params (eligibleCount s) = 1)

/-! ## Parameter commands -/

/-- R87, R260 to R264, R269: the controller commands of the numeric registers without a side effect. -/
def Obligations.ControllerNumericCommands : Prop :=
  ∀ (s : State) (v : Half),
    let cc : ℚ := (min v.toNat 127 : Nat)
    exec (.ccAttack v) s = .next { s with params := { s.params with attack := cc / 127 * 2 } } ∧
    exec (.ccDecay v) s = .next { s with params := { s.params with decay := cc / 127 * 2 } } ∧
    exec (.ccSustain v) s = .next { s with params := { s.params with sustain := cc / 127 } } ∧
    exec (.ccRelease v) s = .next { s with params := { s.params with release := cc / 127 } } ∧
    exec (.ccCutoff v) s = .next { s with params := { s.params with cutoff := cc / 127 } } ∧
    exec (.ccAmplitude v) s = .next { s with params := { s.params with amplitude := cc / 127 } }

/-- R87, R265 to R267: a waveform register gets the code `floor(cc·4/128)`, and nothing else changes. -/
def Obligations.ControllerWaveCommands : Prop :=
  ∀ (s : State) (v : Half), ∃ wave : Waveform, wave.code.toNat = min v.toNat 127 * 4 / 128 ∧
    exec (.ccWaveA v) s = .next { s with params := { s.params with waveA := wave } } ∧
    exec (.ccWaveB v) s = .next { s with params := { s.params with waveB := wave } } ∧
    exec (.ccWaveC v) s = .next { s with params := { s.params with waveC := wave } }

/-- R85, R86, R252, R270 to R278, R284, R287, R289: the SET commands of the fixed-point registers without a side effect;
Q4.12 operands are clamped into the register's range, and no phase is touched. -/
def Obligations.SetFixedPointCommands : Prop :=
  ∀ (s : State) (v : Half),
    let time : ℚ := max 0 (min ((v.toInt : ℚ) / 4096) 2)
    let unit : ℚ := max 0 (min ((v.toInt : ℚ) / 4096) 1)
    exec (.setAttack v) s = .next { s with params := { s.params with attack := time } } ∧
    exec (.setDecay v) s = .next { s with params := { s.params with decay := time } } ∧
    exec (.setSustain v) s = .next { s with params := { s.params with sustain := unit } } ∧
    exec (.setRelease v) s = .next { s with params := { s.params with release := unit } } ∧
    exec (.setFAttack v) s = .next { s with params := { s.params with fAttack := time } } ∧
    exec (.setFDecay v) s = .next { s with params := { s.params with fDecay := time } } ∧
    exec (.setFSustain v) s = .next { s with params := { s.params with fSustain := unit } } ∧
    exec (.setFRelease v) s = .next { s with params := { s.params with fRelease := unit } } ∧
    exec (.setCutoff v) s = .next { s with params := { s.params with cutoff := unit } } ∧
    exec (.setAmplitude v) s = .next { s with params := { s.params with amplitude := unit } } ∧
    exec (.setLfoFreq v) s = .next { s with params := { s.params with lfoFreq := (v.toNat : ℚ) / 256 } } ∧
    exec (.setBpm v) s = .next { s with params := { s.params with bpm := (v.toNat : ℚ) / 16 } }

/-- R88, R279 to R282, R286: the SET commands of the enumerations and of F_ENV_EN clamp to the last code. -/
def Obligations.SetEnumCommands : Prop :=
  ∀ (s : State) (v : Half), ∃ wave : Waveform, wave.code.toNat = min v.toNat 3 ∧
    exec (.setFEnvEn v) s = .next { s with params := { s.params with fEnvEn := decide (v ≠ 0) } } ∧
    exec (.setWaveA v) s = .next { s with params := { s.params with waveA := wave } } ∧
    exec (.setWaveB v) s = .next { s with params := { s.params with waveB := wave } } ∧
    exec (.setWaveC v) s = .next { s with params := { s.params with waveC := wave } } ∧
    exec (.setLfoWave v) s = .next { s with params := { s.params with lfoWave := wave } }

/-- R268, R283, R174: a write of DETUNE retunes every assigned voice with the effective detune, which is the new
value unless the LFO targets the detune, and changes nothing else. -/
def Obligations.DetuneCommandsRetune : Prop :=
  ∀ (s : State) (v : Half),
    (∃ t, exec (.ccDetune v) s = .next t ∧ t.params = { s.params with detune := (min v.toNat 127 : Nat) / 127 } ∧
      t = { s with params := t.params, pool := t.pool } ∧
      Retuned engine (if s.params.lfoTarget = .detune then s.lfo.lfoDetune else t.params.detune) s.pool t.pool) ∧
    (∃ t, exec (.setDetune v) s = .next t ∧
      t.params = { s.params with detune := max 0 (min ((v.toInt : ℚ) / 4096) 1) } ∧
      t = { s with params := t.params, pool := t.pool } ∧
      Retuned engine (if s.params.lfoTarget = .detune then s.lfo.lfoDetune else t.params.detune) s.pool t.pool)

/-- R285, R202: SET.LFO_TARGET writes the target, retunes every assigned voice for the new selection, and touches
neither the LFO's phase nor a shadow. -/
def Obligations.SetLfoTargetRetunes : Prop :=
  ∀ (s : State) (v : Half), ∃ t, exec (.setLfoTarget v) s = .next t ∧
    t.params.lfoTarget.code.toNat = min v.toNat 3 ∧
    t.params = { s.params with lfoTarget := t.params.lfoTarget } ∧
    t = { s with params := t.params, pool := t.pool } ∧
    Retuned engine (if t.params.lfoTarget = .detune then s.lfo.lfoDetune else s.params.detune) s.pool t.pool

/-- R254, R69: `write_param` puts its value in the register of its id and leaves the nineteen others as they were, as
the telemetry shows them (R329). -/
def Obligations.RegisterWriteChangesOneRegister : Prop :=
  ∀ (R : Type) (n : Nat) [NeZero n] (c : Config R n) (w : ParamWrite R) (s : Synth R n),
    (writeParam c w s).params.get w.id = some w.value ∧
      ∀ id : Nat, id ≠ w.id → (writeParam c w s).params.get id = s.params.get id

/-! ## Preset import -/

/-- R295: PRESET_FIELD stages the raw value of an index 0 to 14, and does nothing for another. -/
def Obligations.PresetFieldStages : Prop :=
  ∀ (s : State) (a : BitVec 8) (v : Half),
    (∀ i : Fin FIELDS, a.toNat = i.val → ∃ t, exec (.presetField a v) s = .next t ∧
      t.stg[i] = v ∧ t.stgv[i] = true ∧ (∀ j ≠ i, t.stg[j] = s.stg[j] ∧ t.stgv[j] = s.stgv[j]) ∧
      t = { s with stg := t.stg, stgv := t.stgv }) ∧
    (15 ≤ a.toNat → exec (.presetField a v) s = .next s)

/-- R296, accepted: all fifteen registers from the staged values, the pool retuned, the flag cleared, the valid bits
cleared, and nothing else. -/
def Obligations.PresetCommitAcceptsCompleteRecords : Prop :=
  ∀ s : State, (∀ i : Fin FIELDS, s.stgv[i] = true) → s.stg[9].toNat ≤ 1 → s.stg[10].toNat ≤ 3 →
    s.stg[11].toNat ≤ 3 → s.stg[12].toNat ≤ 3 →
    ∃ t, exec .presetCommit s = .next t ∧
      let time (i : Fin FIELDS) : ℚ := max 0 (min ((s.stg[i].toInt : ℚ) / 4096) 2)
      let unit (i : Fin FIELDS) : ℚ := max 0 (min ((s.stg[i].toInt : ℚ) / 4096) 1)
      t.params = { s.params with
        attack := time 0, decay := time 1, sustain := unit 2, release := unit 3, fAttack := time 4,
        fDecay := time 5, fSustain := unit 6, fRelease := unit 7, cutoff := unit 8,
        fEnvEn := decide (s.stg[9].toNat = 1), waveA := t.params.waveA, waveB := t.params.waveB,
        waveC := t.params.waveC, detune := unit 13, amplitude := unit 14 } ∧
      t.params.waveA.code.toNat = s.stg[10].toNat ∧ t.params.waveB.code.toNat = s.stg[11].toNat ∧
      t.params.waveC.code.toNat = s.stg[12].toNat ∧
      Retuned engine (if s.params.lfoTarget = .detune then s.lfo.lfoDetune else unit 13) s.pool t.pool ∧
      t.presetErr = false ∧ (∀ i : Fin FIELDS, t.stgv[i] = false) ∧
      t = { s with params := t.params, pool := t.pool, stgv := t.stgv, presetErr := t.presetErr }

/-- R296, rejected, and R297: a record with a field missing or an enumeration out of range changes only the flag and
the valid bits, exactly as PRESET_ABORT does. -/
def Obligations.PresetRejectionLeavesEngineAlone : Prop :=
  ∀ s : State,
    let rejected : State := { s with stgv := Vector.replicate FIELDS false, presetErr := true }
    exec .presetAbort s = .next rejected ∧
    ((∃ i : Fin FIELDS, s.stgv[i] = false) ∨ 2 ≤ s.stg[9].toNat ∨ 4 ≤ s.stg[10].toNat ∨ 4 ≤ s.stg[11].toNat ∨
      4 ≤ s.stg[12].toNat → exec .presetCommit s = .next rejected)

/-! ## Rules of the whole machine -/

/-- R29: only PRESET_COMMIT and PRESET_ABORT write `PRESET_ERR`; R37: only they and PRESET_FIELD write the staging. -/
def Obligations.OnlyPresetCommandsWriteTheFlag : Prop :=
  ∀ (i : Instr) (s t : State), exec i s = .next t →
    (i ≠ .presetCommit → i ≠ .presetAbort → t.presetErr = s.presetErr ∧
      ((∀ a v, i ≠ .presetField a v) → t.stgv = s.stgv)) ∧
    ((∀ a v, i ≠ .presetField a v) → t.stg = s.stg)

/-- R26, R142, R191, R207: only TICK moves an oscillator phase, the LFO, the filter's memory and shadows, or puts a
sample on the port; NOTE_ON and NOTE_OFF may move whole records, phases included, but keep every phase in the pool. -/
def Obligations.OnlyTickMovesPhasesAndFilter : Prop :=
  ∀ (i : Instr) (s t : State), exec i s = .next t → i ≠ .tick →
    t.flt = s.flt ∧ t.lfo = s.lfo ∧ t.smpOut = s.smpOut ∧ t.sink = s.sink ∧
    List.Perm (t.pool.toList.map fun v => (v.osc0.phase, v.osc1.phase, v.osc2.phase))
      (s.pool.toList.map fun v => (v.osc0.phase, v.osc1.phase, v.osc2.phase)) ∧
    ((∀ a v, i ≠ .noteOn a v) → (∀ a, i ≠ .noteOff a) →
      t.pool.map (fun v => (v.osc0.phase, v.osc1.phase, v.osc2.phase)) =
        s.pool.map fun v => (v.osc0.phase, v.osc1.phase, v.osc2.phase))

/-- R37, R298: staged preset fields have no effect on the sound. Two states that differ only in the staging and its
flag stay so under every command but PRESET_COMMIT, and emit the same samples. -/
def Obligations.StagingDoesNotInterfere : Prop :=
  ∀ (i : Instr) (s s' t t' : State), SameSound s.toSynth s'.toSynth → i ≠ .presetCommit → exec i s = .next t →
    exec i s' = .next t' →
    SameSound t.toSynth t'.toSynth ∧ t.smpOut = t'.smpOut
end

