-- ==== Sys2Proof/Laws/Encoding.lean ====
section
/-! SUPPORT. The bits and the fields of a command word `OP A V` (spec/30_encoding.md R80, R93). -/

namespace Sys2Proof

/-- The bits of a word, from the least significant: `V`, then `A`, then `OP` (R80). -/
theorem getElem_wordOf (op a : BitVec 8) (v : Half) (i : Nat) (hi : i < 32) :
    (wordOf op a v)[i] = if h : i < 16 then v[i] else if h' : i < 24 then a[i - 16] else op[i - 24] := by
  show (op ++ a ++ v : BitVec (8 + 8 + 16))[i] = _
  rw [BitVec.getElem_append]
  split
  · rfl
  · rw [BitVec.getElem_append]
    split <;> split <;> first | omega | congr 1

theorem opField_wordOf (op a : BitVec 8) (v : Half) : opField (wordOf op a v) = op := by
  ext i hi
  simp only [opField, BitVec.getElem_extractLsb']
  rw [BitVec.getLsbD_eq_getElem (by omega), getElem_wordOf, dif_neg (by omega), dif_neg (by omega)]
  simp

theorem aField_wordOf (op a : BitVec 8) (v : Half) : aField (wordOf op a v) = a := by
  ext i hi
  simp only [aField, BitVec.getElem_extractLsb']
  rw [BitVec.getLsbD_eq_getElem (by omega), getElem_wordOf, dif_neg (by omega), dif_pos (by omega)]
  simp

theorem vField_wordOf (op a : BitVec 8) (v : Half) : vField (wordOf op a v) = v := by
  ext i hi
  simp only [vField, BitVec.getElem_extractLsb']
  rw [BitVec.getLsbD_eq_getElem (by omega), getElem_wordOf]
  simp [hi]

/-- A word is its three fields (R80). -/
theorem wordOf_fields (w : Word) : wordOf (opField w) (aField w) (vField w) = w := by
  ext i hi
  rw [getElem_wordOf]
  split_ifs with h h'
  · simp [vField, BitVec.getLsbD_eq_getElem hi]
  · simp only [aField, BitVec.getElem_extractLsb']
    rw [show 16 + (i - 16) = i by omega, BitVec.getLsbD_eq_getElem hi]
  · simp only [opField, BitVec.getElem_extractLsb']
    rw [show 24 + (i - 24) = i by omega, BitVec.getLsbD_eq_getElem hi]

end Sys2Proof
end

