-- ==== Sys2Proof/Laws/Numeric.lean ====
section
/-! SUPPORT. The primitives of R13 in exact arithmetic, the digit-by-digit root, and the fields of the machine's
configuration. -/

namespace Sys2Proof.Machine

section Exact

variable {K : Type} [Field K] [LinearOrder K] [FloorRing K]

/-- The arithmetic of `exactNum` is exact, whatever the four functions are. -/
theorem exactNum_exact (sin2pi pow2 sqrt : K → K) (pi : K) : (exactNum sin2pi pow2 sqrt pi).Exact where
  ofRat _ := rfl
  add _ _ := rfl
  sub _ _ := rfl
  mul _ _ := rfl
  div _ _ := rfl
  lt _ _ := rfl
  le _ _ := rfl
  eq _ _ := rfl
  abs _ := rfl
  floor _ := rfl
  trunc _ := rfl

theorem clamp_eq_max_min {N : NumOps K} (hN : N.Exact) (x : K) {lo hi : K} (h : lo ≤ hi) :
    clamp N x lo hi = max lo (min x hi) := by
  simp only [clamp, hN.lt, decide_eq_true_eq]
  split_ifs with h1 h2
  · rw [min_eq_left (h1.le.trans h), max_eq_left h1.le]
  · rw [min_eq_right h2.le, max_eq_right h]
  · rw [min_eq_left (not_lt.mp h2), max_eq_right (not_lt.mp h1)]

theorem le_clamp {N : NumOps K} (hN : N.Exact) (x : K) {lo hi : K} (h : lo ≤ hi) : lo ≤ clamp N x lo hi := by
  rw [clamp_eq_max_min hN x h]; exact le_max_left _ _

theorem clamp_le {N : NumOps K} (hN : N.Exact) (x : K) {lo hi : K} (h : lo ≤ hi) : clamp N x lo hi ≤ hi := by
  rw [clamp_eq_max_min hN x h]; exact max_le h (min_le_right _ _)

theorem clamp_of_mem {N : NumOps K} (hN : N.Exact) {x lo hi : K} (h1 : lo ≤ x) (h2 : x ≤ hi) : clamp N x lo hi = x := by
  simp [clamp, hN.lt, not_lt.mpr h1, not_lt.mpr h2]

theorem frac_eq_fract {N : NumOps K} (hN : N.Exact) (x : K) : frac N x = Int.fract x := by
  simp only [frac, hN.sub, hN.ofRat, hN.floor, Rat.cast_intCast, Int.self_sub_floor]

end Exact

/-! ## The machine's configuration -/

theorem engine_exact : engine.num.Exact := exactNum_exact _ _ _ _

theorem idealEngine_exact : idealEngine.num.Exact := exactNum_exact _ _ _ _

@[simp] theorem engine_rate : engine.rate = 44100 := rfl
@[simp] theorem engine_a4Reference : engine.a4Reference = 57 := rfl
@[simp] theorem engine_decayTarget0 (d s r : ℚ) : engine.decayTarget0 d s r = r := rfl
@[simp] theorem engine_quantRound (y : ℚ) : engine.quantRound y = truncate y := rfl
@[simp] theorem engine_fullScale : engine.fullScale = 32767 := rfl
@[simp] theorem engine_resetParams : engine.resetParams = Params.reset engine.num := rfl
@[simp] theorem engine_sin2pi (p : ℚ) : engine.num.sin2pi p = sin2pi p := rfl
@[simp] theorem engine_pow2 (x : ℚ) : engine.num.pow2 x = pow2 x := rfl
@[simp] theorem engine_sqrt (x : ℚ) : engine.num.sqrt x = sqrt x := rfl
@[simp] theorem engine_pi : engine.num.pi = piValue := rfl

/-! ## Rounding, the quarter sine and the root -/

theorem abs_truncate_le {K : Type} [Field K] [LinearOrder K] [IsStrictOrderedRing K] [FloorRing K] {x : K} {m : Nat}
    (h : |x| ≤ m) : |truncate x| ≤ m := by
  obtain ⟨h1, h2⟩ := abs_le.mp h
  unfold truncate
  split_ifs with h0
  · rw [abs_of_nonneg (Int.floor_nonneg.mpr h0)]
    exact_mod_cast (Int.floor_le x).trans h2
  · have h3 : ⌈x⌉ ≤ 0 := Int.ceil_le.mpr (by exact_mod_cast (not_le.mp h0).le)
    rw [abs_of_nonpos h3, neg_le]
    exact_mod_cast h1.trans (Int.le_ceil x)

/-- A sine of the first quarter is in `[0,1]` (U1 item 2). -/
theorem quarterSine_mem (r : ℚ) : 0 ≤ quarterSine r ∧ quarterSine r ≤ 1 := by
  unfold quarterSine
  split_ifs
  · norm_num
  · norm_num
  · exact ⟨le_max_left _ _, max_le zero_le_one (min_le_left _ _)⟩

/-- The digit loop keeps the bracket `r^b ≤ n < (r + 2^k)^b`, so it ends at the integer root. -/
theorem rootDigits_bracket (b n k r : Nat) (h1 : r ^ b ≤ n) (h2 : n < (r + 2 ^ k) ^ b) :
    rootDigits b n k r ^ b ≤ n ∧ n < (rootDigits b n k r + 1) ^ b := by
  induction k generalizing r with
  | zero => exact ⟨h1, h2⟩
  | succ k ih =>
    rw [rootDigits]
    split_ifs with h
    · exact ih _ h (by rwa [pow_succ, mul_two, ← add_assoc] at h2)
    · exact ih _ h1 (not_le.mp h)

end Sys2Proof.Machine
end

