-- ==== Sys2Proof/Laws/Exact.lean ====
section
/-! SUPPORT. What each function of the engine computes in exact arithmetic, in the notation of its rule: one lemma a
function, so that no proof unfolds the operations of `NUM`. -/

namespace Sys2Proof.Machine

variable {K : Type} [Field K] [LinearOrder K] [FloorRing K] {n : Nat} {c : Config K n}

/-! ## Frequencies and detune (R170, R173) -/

theorem noteFreq_eq [CharZero K] (hN : c.num.Exact) (m : Int) :
    c.noteFreq m = 440 * c.num.pow2 (((m : K) - (c.a4Reference : K)) / 12) := by
  simp [Config.noteFreq, hN.mul, hN.ofRat]

theorem detuneHz_eq [CharZero K] (hN : c.num.Exact) (det : K) : detuneHz c det = 5 * det := by
  simp [detuneHz, DETUNE_HZ, hN.mul, hN.ofRat]

theorem setFreqs_eq [CharZero K] (hN : c.num.Exact) (det : K) (v : Voice K) :
    setFreqs c det v =
      { v with
        osc0 := { v.osc0 with freq := c.noteFreq v.note }
        osc1 := { v.osc1 with freq := c.noteFreq v.note + 5 * det }
        osc2 := { v.osc2 with freq := c.noteFreq v.note - 5 * det } } := by
  simp [setFreqs, detuneHz_eq hN, hN.add, hN.sub]

theorem velocityLevel_eq [CharZero K] {N : NumOps K} (hN : N.Exact) (velocity : Nat) :
    velocityLevel N velocity = (velocity : K) / 127 := by
  simp [velocityLevel, hN.div, hN.ofRat]

/-! ## Oscillators and the LFO (R132 to R137, R197) -/

theorem wave_square {N : NumOps K} [CharZero K] (hN : N.Exact) (p : K) :
    wave N .square p = if p < 1 / 2 then 1 else -1 := by
  simp [wave, hN.lt, hN.ofRat]

theorem wave_triangle {N : NumOps K} [CharZero K] (hN : N.Exact) (p : K) :
    wave N .triangle p = 1 - 4 * |p - 1 / 2| := by
  simp [wave, hN.sub, hN.mul, hN.abs, hN.ofRat]

theorem wave_sawtooth {N : NumOps K} [CharZero K] (hN : N.Exact) (p : K) : wave N .sawtooth p = 2 * p - 1 := by
  simp [wave, hN.sub, hN.mul, hN.ofRat]

theorem phaseStep_eq [CharZero K] (hN : c.num.Exact) (phase f : K) :
    phaseStep c phase f = Int.fract (phase + f / c.rate) := by
  simp [phaseStep, frac_eq_fract hN, hN.add, hN.div, hN.ofRat]

/-! ## Envelopes (R112 to R118) -/

theorem attackOut_eq [CharZero K] (hN : c.num.Exact) (out a : K) : attackOut c out a = out + 1 / (a * c.rate) := by
  simp [attackOut, hN.add, hN.div, hN.mul, hN.ofRat]

theorem armAttack_eq [CharZero K] (hN : c.num.Exact) (e : Envelope K) (a : K) :
    armAttack c e a =
      if 0 < a then
        if 1 ≤ e.out + 1 / (a * c.rate) then ⟨.decay, 1⟩ else ⟨e.state, e.out + 1 / (a * c.rate)⟩
      else ⟨.decay, 1⟩ := by
  simp [armAttack, attackOut_eq hN, hN.lt, hN.le, hN.ofRat]

theorem decayTarget_eq [CharZero K] (hN : c.num.Exact) (p : Adsr K) :
    decayTarget c p = if 0 < p.s then p.s else c.decayTarget0 p.d p.s p.r := by
  simp [decayTarget, hN.lt, hN.ofRat]

theorem decayNext_eq [CharZero K] (hN : c.num.Exact) (p : Adsr K) :
    decayNext c p = if 0 < p.s then .sustain else .release := by
  simp [decayNext, hN.lt, hN.ofRat]

theorem decayOut_eq [CharZero K] (hN : c.num.Exact) (out : K) (p : Adsr K) :
    decayOut c out p = out - (1 - decayTarget c p) / (p.d * c.rate) := by
  simp [decayOut, hN.sub, hN.div, hN.mul, hN.ofRat]

theorem armDecay_eq [CharZero K] (hN : c.num.Exact) (e : Envelope K) (p : Adsr K) :
    armDecay c e p =
      if 0 < p.d then
        if e.out - (1 - decayTarget c p) / (p.d * c.rate) ≤ decayTarget c p then ⟨decayNext c p, decayTarget c p⟩
        else ⟨e.state, e.out - (1 - decayTarget c p) / (p.d * c.rate)⟩
      else ⟨decayNext c p, decayTarget c p⟩ := by
  simp [armDecay, decayOut_eq hN, hN.lt, hN.le, hN.ofRat]

theorem armSustain_eq [CharZero K] (hN : c.num.Exact) (e : Envelope K) (p : Adsr K) :
    armSustain c e p = if p.s = 0 then armRelease c ⟨.release, e.out⟩ p.r else ⟨e.state, p.s⟩ := by
  simp [armSustain, hN.eq, hN.ofRat]

theorem armRelease_eq [CharZero K] (hN : c.num.Exact) (e : Envelope K) (r : K) :
    armRelease c e r =
      if 0 < r then
        if e.out - e.out / (r * c.rate) ≤ 1 / 1000 then ⟨.idle, 0⟩ else ⟨e.state, e.out - e.out / (r * c.rate)⟩
      else ⟨.idle, 0⟩ := by
  simp [armRelease, releaseOut, ENV_FLOOR, hN.lt, hN.le, hN.sub, hN.div, hN.mul, hN.ofRat]

theorem envTrigger_eq [CharZero K] (hN : c.num.Exact) (e : Envelope K) : envTrigger c e = ⟨.attack, 1 / 1000⟩ := by
  simp [envTrigger, ENV_TRIGGER_LEVEL, hN.ofRat]

/-! ## The arpeggiator (R212) -/

theorem tempoIncrement_eq [CharZero K] (hN : c.num.Exact) (p : Params K) :
    tempoIncrement c p = p.bpm / (60 * c.rate) := by
  simp [tempoIncrement, hN.div, hN.mul, hN.ofRat]

/-! ## The filter (R181 to R186) -/

theorem omega_eq [CharZero K] (hN : c.num.Exact) (cutoff : K) :
    omega c cutoff = 2 * c.num.pi * (cutoff * c.rate / 8) / c.rate := by
  simp [omega, CUTOFF_DIV, hN.div, hN.mul, hN.ofRat]

theorem alpha_eq [CharZero K] (hN : c.num.Exact) (cutoff : K) :
    alpha c cutoff = omega c cutoff / (omega c cutoff + 1) := by
  simp [alpha, hN.div, hN.add, hN.ofRat]

theorem envelopeCutoff_eq [IsStrictOrderedRing K] (hN : c.num.Exact) (cutoff fe : K) :
    envelopeCutoff c cutoff fe = max 0 (min (cutoff + fe / 2) 1) := by
  simp [envelopeCutoff, hN.add, hN.div, hN.ofRat, clamp_eq_max_min hN]

theorem resolveCutoff_eq [IsStrictOrderedRing K] (hN : c.num.Exact) (s : Synth K n) :
    resolveCutoff c s =
      max 0 (min (if s.params.lfoTarget = .cutoff then s.flt.lfoCutoff
        else if s.params.fEnvEn = true then s.flt.envCutoff else s.params.cutoff) 1) := by
  simp [resolveCutoff, hN.ofRat, clamp_eq_max_min hN]

theorem filterOut_eq [CharZero K] (hN : c.num.Exact) (x : K) (s : Synth K n) :
    filterOut c x s = alpha c (resolveCutoff c s) * x + (1 - alpha c (resolveCutoff c s)) * s.flt.prevOut := by
  simp [filterOut, onePole, hN.add, hN.mul, hN.sub, hN.ofRat]

/-! ## The mixer (R227 to R233) -/

theorem oscMean_eq [CharZero K] (hN : c.num.Exact) (p : Params K) (v : Voice K) :
    oscMean c p v =
      (wave c.num p.waveA v.osc0.phase + wave c.num p.waveB v.osc1.phase + wave c.num p.waveC v.osc2.phase) / 3 := by
  simp [oscMean, oscStep, hN.add, hN.div, hN.ofRat]

theorem voiceSample_eq (hN : c.num.Exact) (p : Params K) (v : Voice K) :
    voiceSample c p v = oscMean c p v * (envAdvance c v.env p.adsr).out * v.vel := by
  simp [voiceSample, hN.mul]

theorem voiceSum_eq [CharZero K] (hN : c.num.Exact) (s : Synth K n) :
    voiceSum c s = (((slots n).filter (eligible s)).map fun i => voiceSample c s.params s.pool[i]).sum := by
  have h : ∀ (l : List (Fin n)) (x : K), l.foldl (fun sum i => c.num.add sum (voiceSample c s.params s.pool[i])) x =
      x + (l.map fun i => voiceSample c s.params s.pool[i]).sum := by
    intro l
    induction l with
    | nil => simp
    | cons i l ih => intro x; rw [List.foldl_cons, ih, hN.add, List.map_cons, List.sum_cons, add_assoc]
  rw [voiceSum, h, hN.ofRat, Rat.cast_zero, zero_add]

theorem gain_eq [CharZero K] (hN : c.num.Exact) (p : Params K) (count : Nat) :
    gain c p count = if p.arpEn = true ∨ count = 0 then 1 else 1 / c.num.sqrt count := by
  simp [gain, hN.div, hN.ofRat]

theorem mixed_eq [IsStrictOrderedRing K] (hN : c.num.Exact) (count : Nat) (sum : K) (s : Synth K n) :
    mixed c count sum s = max (-1) (min (sum * gain c s.params count * effectiveAmplitude s) 1) := by
  simp [mixed, hN.mul, hN.ofRat, clamp_eq_max_min hN]

theorem quantise_eq [CharZero K] (hN : c.num.Exact) (y : K) : quantise c y = c.quantRound (y * c.fullScale) := by
  simp [quantise, hN.mul, hN.ofRat]

end Sys2Proof.Machine
end

