-- ==== Sys2Proof/Laws/Operands.lean ====
section
/-! SUPPORT. What the operand forms can answer: the codes of the enumerations and the ranges of the scaled values. -/

namespace Sys2Proof.Machine

theorem code_waveOfCode (n : Nat) : (waveOfCode n).code.toNat = min n 3 := by
  match n with
  | 0 => rfl
  | 1 => rfl
  | 2 => rfl
  | n + 3 => simp [waveOfCode, Waveform.code]

theorem code_targetOfCode (n : Nat) : (targetOfCode n).code.toNat = min n 3 := by
  match n with
  | 0 => rfl
  | 1 => rfl
  | 2 => rfl
  | n + 3 => simp [targetOfCode, LfoTarget.code]

theorem boolOfCode_eq (n : Nat) : boolOfCode n = decide (n ≠ 0) := by cases n <;> simp [boolOfCode]

theorem controllerOperand_le (v : Half) : controllerOperand v ≤ 127 := min_le_right _ _

theorem velocityOperand_mem (v : Half) : 1 ≤ velocityOperand v ∧ velocityOperand v ≤ 127 := by
  simp [velocityOperand]

theorem noteOperand_eq_some {a : BitVec 8} (h : a.toNat ≤ 127) : noteOperand a = some (a.toNat : Int) := if_pos h

theorem noteOperand_eq_none {a : BitVec 8} (h : 128 ≤ a.toNat) : noteOperand a = none := if_neg (by omega)

section Exact

variable {K : Type} [Field K] [LinearOrder K] [FloorRing K] {N : NumOps K}

theorem q412_eq [CharZero K] (hN : N.Exact) (v : Half) : q412 N v = (v.toInt : K) / 4096 := by simp [q412, hN.ofRat]

theorem uq88_eq [CharZero K] (hN : N.Exact) (v : Half) : uq88 N v = (v.toNat : K) / 256 := by simp [uq88, hN.ofRat]

theorem uq124_eq [CharZero K] (hN : N.Exact) (v : Half) : uq124 N v = (v.toNat : K) / 16 := by simp [uq124, hN.ofRat]

theorem ccUnit_eq (hN : N.Exact) (v : Half) : ccUnit N v = (controllerOperand v : K) / 127 := by
  simp [ccUnit, hN.div, hN.ofRat]

theorem ccDouble_eq [CharZero K] (hN : N.Exact) (v : Half) : ccDouble N v = (controllerOperand v : K) / 127 * 2 := by
  simp [ccDouble, hN.mul, hN.ofRat, ccUnit_eq hN]

theorem setTime_eq [IsStrictOrderedRing K] (hN : N.Exact) (v : Half) : setTime N v = max 0 (min ((v.toInt : K) / 4096) 2) := by
  simp [setTime, hN.ofRat, q412_eq hN, clamp_eq_max_min hN]

theorem setUnit_eq [CharZero K] (hN : N.Exact) (v : Half) : setUnit N v = max 0 (min ((v.toInt : K) / 4096) 1) := by
  simp [setUnit, hN.ofRat, q412_eq hN, clamp_eq_max_min hN]

theorem setTime_mem [IsStrictOrderedRing K] (hN : N.Exact) (v : Half) : 0 ≤ setTime N v ∧ setTime N v ≤ 2 := by
  rw [setTime_eq hN]; exact ⟨le_max_left _ _, max_le zero_le_two (min_le_right _ _)⟩

theorem setUnit_mem [IsStrictOrderedRing K] (hN : N.Exact) (v : Half) : 0 ≤ setUnit N v ∧ setUnit N v ≤ 1 := by
  rw [setUnit_eq hN]; exact ⟨le_max_left _ _, max_le zero_le_one (min_le_right _ _)⟩

theorem controllerOperand_cast_le [IsStrictOrderedRing K] (v : Half) : (controllerOperand v : K) ≤ 127 := by
  exact_mod_cast controllerOperand_le v

theorem ccUnit_mem [IsStrictOrderedRing K] (hN : N.Exact) (v : Half) : 0 ≤ ccUnit N v ∧ ccUnit N v ≤ 1 := by
  rw [ccUnit_eq hN]
  exact ⟨by positivity, (div_le_one (by norm_num)).mpr (controllerOperand_cast_le v)⟩

theorem ccDouble_mem [IsStrictOrderedRing K] (hN : N.Exact) (v : Half) : 0 ≤ ccDouble N v ∧ ccDouble N v ≤ 2 := by
  have h := ccUnit_mem hN v
  rw [ccUnit_eq hN] at h
  rw [ccDouble_eq hN]
  constructor <;> linarith [h.1, h.2]

theorem toNat_cast_le [IsStrictOrderedRing K] (v : Half) : (v.toNat : K) ≤ 65535 := by exact_mod_cast Nat.le_of_lt_succ v.isLt

theorem uq88_mem [IsStrictOrderedRing K] (hN : N.Exact) (v : Half) : 0 ≤ uq88 N v ∧ uq88 N v ≤ 65535 / 256 := by
  rw [uq88_eq hN]
  exact ⟨by positivity, div_le_div_of_nonneg_right (toNat_cast_le v) (by norm_num)⟩

theorem uq124_mem [IsStrictOrderedRing K] (hN : N.Exact) (v : Half) : 0 ≤ uq124 N v ∧ uq124 N v ≤ 65535 / 16 := by
  rw [uq124_eq hN]
  exact ⟨by positivity, div_le_div_of_nonneg_right (toNat_cast_le v) (by norm_num)⟩

end Exact

end Sys2Proof.Machine
end

