-- ==== Sys2Proof/Laws/PerInstr.lean ====
section
/-! SUPPORT. What holds of every command as syntax: the family `SelectsRow`, one lemma per constructor. -/

namespace Sys2Proof.Laws.SelectsRow

/-- A command's word selects its own row of the opcode table, the fields it does not use are 0 in it, and the row is
in the table (R90, R96). -/
def Statement (i : Instr) : Prop :=
  i.row.selects (encode i) = true ∧ encode i &&& i.usedMask = encode i ∧ i.row ∈ opcodeTable

theorem opRow_selects (m : String) (op a : BitVec 8) (v : Half) : (opRow m op).selects (wordOf op a v) = true := by
  simp only [opRow, Row.selects, beq_iff_eq]
  ext i hi
  simp only [BitVec.getElem_and, getElem_wordOf]
  interval_cases i <;> simp

theorem regRow_selects (m : String) (op a : BitVec 8) (v : Half) : (regRow m op a).selects (wordOf op a v) = true := by
  simp only [regRow, Row.selects, beq_iff_eq]
  ext i hi
  simp only [BitVec.getElem_and, getElem_wordOf]
  interval_cases i <;> simp

theorem wordOf_and_op (op : BitVec 8) : wordOf op 0#8 0#16 &&& 0xFF000000#32 = wordOf op 0#8 0#16 := by
  ext i hi
  simp only [BitVec.getElem_and, getElem_wordOf]
  interval_cases i <;> simp

theorem wordOf_and_op_a (op a : BitVec 8) : wordOf op a 0#16 &&& 0xFFFF0000#32 = wordOf op a 0#16 := by
  ext i hi
  simp only [BitVec.getElem_and, getElem_wordOf]
  interval_cases i <;> simp

theorem wordOf_and_all (w : Word) : w &&& 0xFFFFFFFF#32 = w := BitVec.and_allOnes

theorem nop : Statement .nop :=
  ⟨opRow_selects _ _ _ _, wordOf_and_op _, List.elem_iff.mp rfl⟩

theorem noteOn (a : BitVec 8) (v : Half) : Statement (.noteOn a v) :=
  ⟨opRow_selects _ _ _ _, wordOf_and_all _, List.elem_iff.mp rfl⟩

theorem noteOff (a : BitVec 8) : Statement (.noteOff a) :=
  ⟨opRow_selects _ _ _ _, wordOf_and_op_a _ _, List.elem_iff.mp rfl⟩

theorem ccAttack (v : Half) : Statement (.ccAttack v) :=
  ⟨regRow_selects _ _ _ _, wordOf_and_all _, List.elem_iff.mp rfl⟩

theorem ccDecay (v : Half) : Statement (.ccDecay v) :=
  ⟨regRow_selects _ _ _ _, wordOf_and_all _, List.elem_iff.mp rfl⟩

theorem ccSustain (v : Half) : Statement (.ccSustain v) :=
  ⟨regRow_selects _ _ _ _, wordOf_and_all _, List.elem_iff.mp rfl⟩

theorem ccRelease (v : Half) : Statement (.ccRelease v) :=
  ⟨regRow_selects _ _ _ _, wordOf_and_all _, List.elem_iff.mp rfl⟩

theorem ccCutoff (v : Half) : Statement (.ccCutoff v) :=
  ⟨regRow_selects _ _ _ _, wordOf_and_all _, List.elem_iff.mp rfl⟩

theorem ccWaveA (v : Half) : Statement (.ccWaveA v) :=
  ⟨regRow_selects _ _ _ _, wordOf_and_all _, List.elem_iff.mp rfl⟩

theorem ccWaveB (v : Half) : Statement (.ccWaveB v) :=
  ⟨regRow_selects _ _ _ _, wordOf_and_all _, List.elem_iff.mp rfl⟩

theorem ccWaveC (v : Half) : Statement (.ccWaveC v) :=
  ⟨regRow_selects _ _ _ _, wordOf_and_all _, List.elem_iff.mp rfl⟩

theorem ccDetune (v : Half) : Statement (.ccDetune v) :=
  ⟨regRow_selects _ _ _ _, wordOf_and_all _, List.elem_iff.mp rfl⟩

theorem ccAmplitude (v : Half) : Statement (.ccAmplitude v) :=
  ⟨regRow_selects _ _ _ _, wordOf_and_all _, List.elem_iff.mp rfl⟩

theorem setAttack (v : Half) : Statement (.setAttack v) :=
  ⟨regRow_selects _ _ _ _, wordOf_and_all _, List.elem_iff.mp rfl⟩

theorem setDecay (v : Half) : Statement (.setDecay v) :=
  ⟨regRow_selects _ _ _ _, wordOf_and_all _, List.elem_iff.mp rfl⟩

theorem setSustain (v : Half) : Statement (.setSustain v) :=
  ⟨regRow_selects _ _ _ _, wordOf_and_all _, List.elem_iff.mp rfl⟩

theorem setRelease (v : Half) : Statement (.setRelease v) :=
  ⟨regRow_selects _ _ _ _, wordOf_and_all _, List.elem_iff.mp rfl⟩

theorem setFAttack (v : Half) : Statement (.setFAttack v) :=
  ⟨regRow_selects _ _ _ _, wordOf_and_all _, List.elem_iff.mp rfl⟩

theorem setFDecay (v : Half) : Statement (.setFDecay v) :=
  ⟨regRow_selects _ _ _ _, wordOf_and_all _, List.elem_iff.mp rfl⟩

theorem setFSustain (v : Half) : Statement (.setFSustain v) :=
  ⟨regRow_selects _ _ _ _, wordOf_and_all _, List.elem_iff.mp rfl⟩

theorem setFRelease (v : Half) : Statement (.setFRelease v) :=
  ⟨regRow_selects _ _ _ _, wordOf_and_all _, List.elem_iff.mp rfl⟩

theorem setCutoff (v : Half) : Statement (.setCutoff v) :=
  ⟨regRow_selects _ _ _ _, wordOf_and_all _, List.elem_iff.mp rfl⟩

theorem setFEnvEn (v : Half) : Statement (.setFEnvEn v) :=
  ⟨regRow_selects _ _ _ _, wordOf_and_all _, List.elem_iff.mp rfl⟩

theorem setWaveA (v : Half) : Statement (.setWaveA v) :=
  ⟨regRow_selects _ _ _ _, wordOf_and_all _, List.elem_iff.mp rfl⟩

theorem setWaveB (v : Half) : Statement (.setWaveB v) :=
  ⟨regRow_selects _ _ _ _, wordOf_and_all _, List.elem_iff.mp rfl⟩

theorem setWaveC (v : Half) : Statement (.setWaveC v) :=
  ⟨regRow_selects _ _ _ _, wordOf_and_all _, List.elem_iff.mp rfl⟩

theorem setDetune (v : Half) : Statement (.setDetune v) :=
  ⟨regRow_selects _ _ _ _, wordOf_and_all _, List.elem_iff.mp rfl⟩

theorem setAmplitude (v : Half) : Statement (.setAmplitude v) :=
  ⟨regRow_selects _ _ _ _, wordOf_and_all _, List.elem_iff.mp rfl⟩

theorem setLfoTarget (v : Half) : Statement (.setLfoTarget v) :=
  ⟨regRow_selects _ _ _ _, wordOf_and_all _, List.elem_iff.mp rfl⟩

theorem setLfoWave (v : Half) : Statement (.setLfoWave v) :=
  ⟨regRow_selects _ _ _ _, wordOf_and_all _, List.elem_iff.mp rfl⟩

theorem setLfoFreq (v : Half) : Statement (.setLfoFreq v) :=
  ⟨regRow_selects _ _ _ _, wordOf_and_all _, List.elem_iff.mp rfl⟩

theorem setArpEn (v : Half) : Statement (.setArpEn v) :=
  ⟨regRow_selects _ _ _ _, wordOf_and_all _, List.elem_iff.mp rfl⟩

theorem setBpm (v : Half) : Statement (.setBpm v) :=
  ⟨regRow_selects _ _ _ _, wordOf_and_all _, List.elem_iff.mp rfl⟩

theorem presetField (a : BitVec 8) (v : Half) : Statement (.presetField a v) :=
  ⟨opRow_selects _ _ _ _, wordOf_and_all _, List.elem_iff.mp rfl⟩

theorem presetCommit : Statement .presetCommit :=
  ⟨opRow_selects _ _ _ _, wordOf_and_op _, List.elem_iff.mp rfl⟩

theorem presetAbort : Statement .presetAbort :=
  ⟨opRow_selects _ _ _ _, wordOf_and_op _, List.elem_iff.mp rfl⟩

theorem tick : Statement .tick :=
  ⟨opRow_selects _ _ _ _, wordOf_and_op _, List.elem_iff.mp rfl⟩

end Sys2Proof.Laws.SelectsRow
end

