-- ==== Sys2Proof/Laws/State.lean ====
section
/-! SUPPORT. What each update of the state changes: one lemma per field per update, so that no proof unfolds a record
update. -/

namespace Sys2Proof.Machine

variable {R : Type} {n : Nat} (s : Synth R n)

@[simp] theorem Synth.setPool_pool (p : Pool R n) : (s.setPool p).pool = p := rfl
@[simp] theorem Synth.setPool_params (p : Pool R n) : (s.setPool p).params = s.params := rfl
@[simp] theorem Synth.setPool_flt (p : Pool R n) : (s.setPool p).flt = s.flt := rfl
@[simp] theorem Synth.setPool_fenv (p : Pool R n) : (s.setPool p).fenv = s.fenv := rfl
@[simp] theorem Synth.setPool_lfo (p : Pool R n) : (s.setPool p).lfo = s.lfo := rfl
@[simp] theorem Synth.setPool_arp (p : Pool R n) : (s.setPool p).arp = s.arp := rfl
@[simp] theorem Synth.setPool_stg (p : Pool R n) : (s.setPool p).stg = s.stg := rfl
@[simp] theorem Synth.setPool_stgv (p : Pool R n) : (s.setPool p).stgv = s.stgv := rfl
@[simp] theorem Synth.setPool_presetErr (p : Pool R n) : (s.setPool p).presetErr = s.presetErr := rfl
@[simp] theorem Synth.setPool_rst (p : Pool R n) : (s.setPool p).rst = s.rst := rfl
@[simp] theorem Synth.setPool_cmdIn (p : Pool R n) : (s.setPool p).cmdIn = s.cmdIn := rfl
@[simp] theorem Synth.setPool_smpReady (p : Pool R n) : (s.setPool p).smpReady = s.smpReady := rfl
@[simp] theorem Synth.setPool_smpOut (p : Pool R n) : (s.setPool p).smpOut = s.smpOut := rfl
@[simp] theorem Synth.setPool_sink (p : Pool R n) : (s.setPool p).sink = s.sink := rfl

@[simp] theorem Synth.setParams_pool (p : Params R) : (s.setParams p).pool = s.pool := rfl
@[simp] theorem Synth.setParams_params (p : Params R) : (s.setParams p).params = p := rfl
@[simp] theorem Synth.setParams_flt (p : Params R) : (s.setParams p).flt = s.flt := rfl
@[simp] theorem Synth.setParams_fenv (p : Params R) : (s.setParams p).fenv = s.fenv := rfl
@[simp] theorem Synth.setParams_lfo (p : Params R) : (s.setParams p).lfo = s.lfo := rfl
@[simp] theorem Synth.setParams_arp (p : Params R) : (s.setParams p).arp = s.arp := rfl
@[simp] theorem Synth.setParams_stg (p : Params R) : (s.setParams p).stg = s.stg := rfl
@[simp] theorem Synth.setParams_stgv (p : Params R) : (s.setParams p).stgv = s.stgv := rfl
@[simp] theorem Synth.setParams_presetErr (p : Params R) : (s.setParams p).presetErr = s.presetErr := rfl
@[simp] theorem Synth.setParams_rst (p : Params R) : (s.setParams p).rst = s.rst := rfl
@[simp] theorem Synth.setParams_cmdIn (p : Params R) : (s.setParams p).cmdIn = s.cmdIn := rfl
@[simp] theorem Synth.setParams_smpReady (p : Params R) : (s.setParams p).smpReady = s.smpReady := rfl
@[simp] theorem Synth.setParams_smpOut (p : Params R) : (s.setParams p).smpOut = s.smpOut := rfl
@[simp] theorem Synth.setParams_sink (p : Params R) : (s.setParams p).sink = s.sink := rfl

@[simp] theorem Synth.setFlt_pool (f : Filter R) : (s.setFlt f).pool = s.pool := rfl
@[simp] theorem Synth.setFlt_params (f : Filter R) : (s.setFlt f).params = s.params := rfl
@[simp] theorem Synth.setFlt_flt (f : Filter R) : (s.setFlt f).flt = f := rfl
@[simp] theorem Synth.setFlt_fenv (f : Filter R) : (s.setFlt f).fenv = s.fenv := rfl
@[simp] theorem Synth.setFlt_lfo (f : Filter R) : (s.setFlt f).lfo = s.lfo := rfl
@[simp] theorem Synth.setFlt_arp (f : Filter R) : (s.setFlt f).arp = s.arp := rfl
@[simp] theorem Synth.setFlt_stg (f : Filter R) : (s.setFlt f).stg = s.stg := rfl
@[simp] theorem Synth.setFlt_stgv (f : Filter R) : (s.setFlt f).stgv = s.stgv := rfl
@[simp] theorem Synth.setFlt_presetErr (f : Filter R) : (s.setFlt f).presetErr = s.presetErr := rfl
@[simp] theorem Synth.setFlt_rst (f : Filter R) : (s.setFlt f).rst = s.rst := rfl
@[simp] theorem Synth.setFlt_cmdIn (f : Filter R) : (s.setFlt f).cmdIn = s.cmdIn := rfl
@[simp] theorem Synth.setFlt_smpReady (f : Filter R) : (s.setFlt f).smpReady = s.smpReady := rfl
@[simp] theorem Synth.setFlt_smpOut (f : Filter R) : (s.setFlt f).smpOut = s.smpOut := rfl
@[simp] theorem Synth.setFlt_sink (f : Filter R) : (s.setFlt f).sink = s.sink := rfl

@[simp] theorem Synth.setFenv_pool (e : Envelope R) : (s.setFenv e).pool = s.pool := rfl
@[simp] theorem Synth.setFenv_params (e : Envelope R) : (s.setFenv e).params = s.params := rfl
@[simp] theorem Synth.setFenv_flt (e : Envelope R) : (s.setFenv e).flt = s.flt := rfl
@[simp] theorem Synth.setFenv_fenv (e : Envelope R) : (s.setFenv e).fenv = e := rfl
@[simp] theorem Synth.setFenv_lfo (e : Envelope R) : (s.setFenv e).lfo = s.lfo := rfl
@[simp] theorem Synth.setFenv_arp (e : Envelope R) : (s.setFenv e).arp = s.arp := rfl
@[simp] theorem Synth.setFenv_stg (e : Envelope R) : (s.setFenv e).stg = s.stg := rfl
@[simp] theorem Synth.setFenv_stgv (e : Envelope R) : (s.setFenv e).stgv = s.stgv := rfl
@[simp] theorem Synth.setFenv_presetErr (e : Envelope R) : (s.setFenv e).presetErr = s.presetErr := rfl
@[simp] theorem Synth.setFenv_rst (e : Envelope R) : (s.setFenv e).rst = s.rst := rfl
@[simp] theorem Synth.setFenv_cmdIn (e : Envelope R) : (s.setFenv e).cmdIn = s.cmdIn := rfl
@[simp] theorem Synth.setFenv_smpReady (e : Envelope R) : (s.setFenv e).smpReady = s.smpReady := rfl
@[simp] theorem Synth.setFenv_smpOut (e : Envelope R) : (s.setFenv e).smpOut = s.smpOut := rfl
@[simp] theorem Synth.setFenv_sink (e : Envelope R) : (s.setFenv e).sink = s.sink := rfl

@[simp] theorem Synth.setLfo_pool (l : Lfo R) : (s.setLfo l).pool = s.pool := rfl
@[simp] theorem Synth.setLfo_params (l : Lfo R) : (s.setLfo l).params = s.params := rfl
@[simp] theorem Synth.setLfo_flt (l : Lfo R) : (s.setLfo l).flt = s.flt := rfl
@[simp] theorem Synth.setLfo_fenv (l : Lfo R) : (s.setLfo l).fenv = s.fenv := rfl
@[simp] theorem Synth.setLfo_lfo (l : Lfo R) : (s.setLfo l).lfo = l := rfl
@[simp] theorem Synth.setLfo_arp (l : Lfo R) : (s.setLfo l).arp = s.arp := rfl
@[simp] theorem Synth.setLfo_stg (l : Lfo R) : (s.setLfo l).stg = s.stg := rfl
@[simp] theorem Synth.setLfo_stgv (l : Lfo R) : (s.setLfo l).stgv = s.stgv := rfl
@[simp] theorem Synth.setLfo_presetErr (l : Lfo R) : (s.setLfo l).presetErr = s.presetErr := rfl
@[simp] theorem Synth.setLfo_rst (l : Lfo R) : (s.setLfo l).rst = s.rst := rfl
@[simp] theorem Synth.setLfo_cmdIn (l : Lfo R) : (s.setLfo l).cmdIn = s.cmdIn := rfl
@[simp] theorem Synth.setLfo_smpReady (l : Lfo R) : (s.setLfo l).smpReady = s.smpReady := rfl
@[simp] theorem Synth.setLfo_smpOut (l : Lfo R) : (s.setLfo l).smpOut = s.smpOut := rfl
@[simp] theorem Synth.setLfo_sink (l : Lfo R) : (s.setLfo l).sink = s.sink := rfl

@[simp] theorem Synth.setArp_pool (a : Arp R n) : (s.setArp a).pool = s.pool := rfl
@[simp] theorem Synth.setArp_params (a : Arp R n) : (s.setArp a).params = s.params := rfl
@[simp] theorem Synth.setArp_flt (a : Arp R n) : (s.setArp a).flt = s.flt := rfl
@[simp] theorem Synth.setArp_fenv (a : Arp R n) : (s.setArp a).fenv = s.fenv := rfl
@[simp] theorem Synth.setArp_lfo (a : Arp R n) : (s.setArp a).lfo = s.lfo := rfl
@[simp] theorem Synth.setArp_arp (a : Arp R n) : (s.setArp a).arp = a := rfl
@[simp] theorem Synth.setArp_stg (a : Arp R n) : (s.setArp a).stg = s.stg := rfl
@[simp] theorem Synth.setArp_stgv (a : Arp R n) : (s.setArp a).stgv = s.stgv := rfl
@[simp] theorem Synth.setArp_presetErr (a : Arp R n) : (s.setArp a).presetErr = s.presetErr := rfl
@[simp] theorem Synth.setArp_rst (a : Arp R n) : (s.setArp a).rst = s.rst := rfl
@[simp] theorem Synth.setArp_cmdIn (a : Arp R n) : (s.setArp a).cmdIn = s.cmdIn := rfl
@[simp] theorem Synth.setArp_smpReady (a : Arp R n) : (s.setArp a).smpReady = s.smpReady := rfl
@[simp] theorem Synth.setArp_smpOut (a : Arp R n) : (s.setArp a).smpOut = s.smpOut := rfl
@[simp] theorem Synth.setArp_sink (a : Arp R n) : (s.setArp a).sink = s.sink := rfl

@[simp] theorem Synth.setStg_pool (v : Vector Half FIELDS) : (s.setStg v).pool = s.pool := rfl
@[simp] theorem Synth.setStg_params (v : Vector Half FIELDS) : (s.setStg v).params = s.params := rfl
@[simp] theorem Synth.setStg_flt (v : Vector Half FIELDS) : (s.setStg v).flt = s.flt := rfl
@[simp] theorem Synth.setStg_fenv (v : Vector Half FIELDS) : (s.setStg v).fenv = s.fenv := rfl
@[simp] theorem Synth.setStg_lfo (v : Vector Half FIELDS) : (s.setStg v).lfo = s.lfo := rfl
@[simp] theorem Synth.setStg_arp (v : Vector Half FIELDS) : (s.setStg v).arp = s.arp := rfl
@[simp] theorem Synth.setStg_stg (v : Vector Half FIELDS) : (s.setStg v).stg = v := rfl
@[simp] theorem Synth.setStg_stgv (v : Vector Half FIELDS) : (s.setStg v).stgv = s.stgv := rfl
@[simp] theorem Synth.setStg_presetErr (v : Vector Half FIELDS) : (s.setStg v).presetErr = s.presetErr := rfl
@[simp] theorem Synth.setStg_rst (v : Vector Half FIELDS) : (s.setStg v).rst = s.rst := rfl
@[simp] theorem Synth.setStg_cmdIn (v : Vector Half FIELDS) : (s.setStg v).cmdIn = s.cmdIn := rfl
@[simp] theorem Synth.setStg_smpReady (v : Vector Half FIELDS) : (s.setStg v).smpReady = s.smpReady := rfl
@[simp] theorem Synth.setStg_smpOut (v : Vector Half FIELDS) : (s.setStg v).smpOut = s.smpOut := rfl
@[simp] theorem Synth.setStg_sink (v : Vector Half FIELDS) : (s.setStg v).sink = s.sink := rfl

@[simp] theorem Synth.setStgv_pool (v : Vector Bool FIELDS) : (s.setStgv v).pool = s.pool := rfl
@[simp] theorem Synth.setStgv_params (v : Vector Bool FIELDS) : (s.setStgv v).params = s.params := rfl
@[simp] theorem Synth.setStgv_flt (v : Vector Bool FIELDS) : (s.setStgv v).flt = s.flt := rfl
@[simp] theorem Synth.setStgv_fenv (v : Vector Bool FIELDS) : (s.setStgv v).fenv = s.fenv := rfl
@[simp] theorem Synth.setStgv_lfo (v : Vector Bool FIELDS) : (s.setStgv v).lfo = s.lfo := rfl
@[simp] theorem Synth.setStgv_arp (v : Vector Bool FIELDS) : (s.setStgv v).arp = s.arp := rfl
@[simp] theorem Synth.setStgv_stg (v : Vector Bool FIELDS) : (s.setStgv v).stg = s.stg := rfl
@[simp] theorem Synth.setStgv_stgv (v : Vector Bool FIELDS) : (s.setStgv v).stgv = v := rfl
@[simp] theorem Synth.setStgv_presetErr (v : Vector Bool FIELDS) : (s.setStgv v).presetErr = s.presetErr := rfl
@[simp] theorem Synth.setStgv_rst (v : Vector Bool FIELDS) : (s.setStgv v).rst = s.rst := rfl
@[simp] theorem Synth.setStgv_cmdIn (v : Vector Bool FIELDS) : (s.setStgv v).cmdIn = s.cmdIn := rfl
@[simp] theorem Synth.setStgv_smpReady (v : Vector Bool FIELDS) : (s.setStgv v).smpReady = s.smpReady := rfl
@[simp] theorem Synth.setStgv_smpOut (v : Vector Bool FIELDS) : (s.setStgv v).smpOut = s.smpOut := rfl
@[simp] theorem Synth.setStgv_sink (v : Vector Bool FIELDS) : (s.setStgv v).sink = s.sink := rfl

@[simp] theorem Synth.setPresetErr_pool (b : Bool) : (s.setPresetErr b).pool = s.pool := rfl
@[simp] theorem Synth.setPresetErr_params (b : Bool) : (s.setPresetErr b).params = s.params := rfl
@[simp] theorem Synth.setPresetErr_flt (b : Bool) : (s.setPresetErr b).flt = s.flt := rfl
@[simp] theorem Synth.setPresetErr_fenv (b : Bool) : (s.setPresetErr b).fenv = s.fenv := rfl
@[simp] theorem Synth.setPresetErr_lfo (b : Bool) : (s.setPresetErr b).lfo = s.lfo := rfl
@[simp] theorem Synth.setPresetErr_arp (b : Bool) : (s.setPresetErr b).arp = s.arp := rfl
@[simp] theorem Synth.setPresetErr_stg (b : Bool) : (s.setPresetErr b).stg = s.stg := rfl
@[simp] theorem Synth.setPresetErr_stgv (b : Bool) : (s.setPresetErr b).stgv = s.stgv := rfl
@[simp] theorem Synth.setPresetErr_presetErr (b : Bool) : (s.setPresetErr b).presetErr = b := rfl
@[simp] theorem Synth.setPresetErr_rst (b : Bool) : (s.setPresetErr b).rst = s.rst := rfl
@[simp] theorem Synth.setPresetErr_cmdIn (b : Bool) : (s.setPresetErr b).cmdIn = s.cmdIn := rfl
@[simp] theorem Synth.setPresetErr_smpReady (b : Bool) : (s.setPresetErr b).smpReady = s.smpReady := rfl
@[simp] theorem Synth.setPresetErr_smpOut (b : Bool) : (s.setPresetErr b).smpOut = s.smpOut := rfl
@[simp] theorem Synth.setPresetErr_sink (b : Bool) : (s.setPresetErr b).sink = s.sink := rfl

@[simp] theorem Synth.setCmdIn_pool (ws : List Word) : (s.setCmdIn ws).pool = s.pool := rfl
@[simp] theorem Synth.setCmdIn_params (ws : List Word) : (s.setCmdIn ws).params = s.params := rfl
@[simp] theorem Synth.setCmdIn_flt (ws : List Word) : (s.setCmdIn ws).flt = s.flt := rfl
@[simp] theorem Synth.setCmdIn_fenv (ws : List Word) : (s.setCmdIn ws).fenv = s.fenv := rfl
@[simp] theorem Synth.setCmdIn_lfo (ws : List Word) : (s.setCmdIn ws).lfo = s.lfo := rfl
@[simp] theorem Synth.setCmdIn_arp (ws : List Word) : (s.setCmdIn ws).arp = s.arp := rfl
@[simp] theorem Synth.setCmdIn_stg (ws : List Word) : (s.setCmdIn ws).stg = s.stg := rfl
@[simp] theorem Synth.setCmdIn_stgv (ws : List Word) : (s.setCmdIn ws).stgv = s.stgv := rfl
@[simp] theorem Synth.setCmdIn_presetErr (ws : List Word) : (s.setCmdIn ws).presetErr = s.presetErr := rfl
@[simp] theorem Synth.setCmdIn_rst (ws : List Word) : (s.setCmdIn ws).rst = s.rst := rfl
@[simp] theorem Synth.setCmdIn_cmdIn (ws : List Word) : (s.setCmdIn ws).cmdIn = ws := rfl
@[simp] theorem Synth.setCmdIn_smpReady (ws : List Word) : (s.setCmdIn ws).smpReady = s.smpReady := rfl
@[simp] theorem Synth.setCmdIn_smpOut (ws : List Word) : (s.setCmdIn ws).smpOut = s.smpOut := rfl
@[simp] theorem Synth.setCmdIn_sink (ws : List Word) : (s.setCmdIn ws).sink = s.sink := rfl

@[simp] theorem Synth.setSmpOut_pool (y : Option Sample) : (s.setSmpOut y).pool = s.pool := rfl
@[simp] theorem Synth.setSmpOut_params (y : Option Sample) : (s.setSmpOut y).params = s.params := rfl
@[simp] theorem Synth.setSmpOut_flt (y : Option Sample) : (s.setSmpOut y).flt = s.flt := rfl
@[simp] theorem Synth.setSmpOut_fenv (y : Option Sample) : (s.setSmpOut y).fenv = s.fenv := rfl
@[simp] theorem Synth.setSmpOut_lfo (y : Option Sample) : (s.setSmpOut y).lfo = s.lfo := rfl
@[simp] theorem Synth.setSmpOut_arp (y : Option Sample) : (s.setSmpOut y).arp = s.arp := rfl
@[simp] theorem Synth.setSmpOut_stg (y : Option Sample) : (s.setSmpOut y).stg = s.stg := rfl
@[simp] theorem Synth.setSmpOut_stgv (y : Option Sample) : (s.setSmpOut y).stgv = s.stgv := rfl
@[simp] theorem Synth.setSmpOut_presetErr (y : Option Sample) : (s.setSmpOut y).presetErr = s.presetErr := rfl
@[simp] theorem Synth.setSmpOut_rst (y : Option Sample) : (s.setSmpOut y).rst = s.rst := rfl
@[simp] theorem Synth.setSmpOut_cmdIn (y : Option Sample) : (s.setSmpOut y).cmdIn = s.cmdIn := rfl
@[simp] theorem Synth.setSmpOut_smpReady (y : Option Sample) : (s.setSmpOut y).smpReady = s.smpReady := rfl
@[simp] theorem Synth.setSmpOut_smpOut (y : Option Sample) : (s.setSmpOut y).smpOut = y := rfl
@[simp] theorem Synth.setSmpOut_sink (y : Option Sample) : (s.setSmpOut y).sink = s.sink := rfl

@[simp] theorem Synth.setSink_pool (ys : List Sample) : (s.setSink ys).pool = s.pool := rfl
@[simp] theorem Synth.setSink_params (ys : List Sample) : (s.setSink ys).params = s.params := rfl
@[simp] theorem Synth.setSink_flt (ys : List Sample) : (s.setSink ys).flt = s.flt := rfl
@[simp] theorem Synth.setSink_fenv (ys : List Sample) : (s.setSink ys).fenv = s.fenv := rfl
@[simp] theorem Synth.setSink_lfo (ys : List Sample) : (s.setSink ys).lfo = s.lfo := rfl
@[simp] theorem Synth.setSink_arp (ys : List Sample) : (s.setSink ys).arp = s.arp := rfl
@[simp] theorem Synth.setSink_stg (ys : List Sample) : (s.setSink ys).stg = s.stg := rfl
@[simp] theorem Synth.setSink_stgv (ys : List Sample) : (s.setSink ys).stgv = s.stgv := rfl
@[simp] theorem Synth.setSink_presetErr (ys : List Sample) : (s.setSink ys).presetErr = s.presetErr := rfl
@[simp] theorem Synth.setSink_rst (ys : List Sample) : (s.setSink ys).rst = s.rst := rfl
@[simp] theorem Synth.setSink_cmdIn (ys : List Sample) : (s.setSink ys).cmdIn = s.cmdIn := rfl
@[simp] theorem Synth.setSink_smpReady (ys : List Sample) : (s.setSink ys).smpReady = s.smpReady := rfl
@[simp] theorem Synth.setSink_smpOut (ys : List Sample) : (s.setSink ys).smpOut = s.smpOut := rfl
@[simp] theorem Synth.setSink_sink (ys : List Sample) : (s.setSink ys).sink = ys := rfl

end Sys2Proof.Machine
end

