-- ==== Sys2Proof/Laws/Pool.lean ====
section
/-! SUPPORT. What the shared operations on the voice pool can do: the search for a slot, the retuning, the reclaim
pass, the sort, and what each leaves alone. -/

namespace Sys2Proof.Machine

variable {R : Type} {n : Nat}

/-! ## Slots -/

/-- The search finds the least slot that satisfies the test. -/
theorem firstSlot_eq_some {q : Voice R → Bool} {p : Pool R n} {i : Fin n} :
    firstSlot q p = some i ↔ q p[i] = true ∧ ∀ j < i, q p[j] = false := by
  unfold firstSlot slots
  rw [List.find?_eq_some_iff_getElem]
  constructor
  · rintro ⟨h, k, hk, hki, hj⟩
    simp only [List.getElem_finRange] at hki hj
    subst hki
    refine ⟨h, fun j hjk => ?_⟩
    have := hj j.val (Fin.lt_def.mp hjk)
    simpa using this
  · rintro ⟨h, hj⟩
    refine ⟨h, i.val, by simp, by simp, fun j hji => ?_⟩
    have hji' : j < n := lt_trans hji i.isLt
    have := hj ⟨j, hji'⟩ (by simpa [Fin.lt_def] using hji)
    simpa using this

theorem firstSlot_eq_none {q : Voice R → Bool} {p : Pool R n} :
    firstSlot q p = none ↔ ∀ i : Fin n, q p[i] = false := by
  simp [firstSlot, slots, List.find?_eq_none]

/-- One slot after a map over the pool. -/
theorem getElem_poolMap (f : Voice R → Voice R) (p : Pool R n) (i : Fin n) : (p.map f)[i] = f p[i] := by simp

/-- One slot after a write to a slot. -/
theorem getElem_poolSet (p : Pool R n) (i j : Fin n) (v : Voice R) : (p.set i v)[j] = if i = j then v else p[j] := by
  simp [Vector.getElem_set, Fin.ext_iff]

/-! ## Retuning -/

@[simp] theorem setFreqs_note (c : Config R n) (det : R) (v : Voice R) : (setFreqs c det v).note = v.note := rfl
@[simp] theorem setFreqs_pressed (c : Config R n) (det : R) (v : Voice R) : (setFreqs c det v).pressed = v.pressed := rfl
@[simp] theorem setFreqs_vel (c : Config R n) (det : R) (v : Voice R) : (setFreqs c det v).vel = v.vel := rfl
@[simp] theorem setFreqs_env (c : Config R n) (det : R) (v : Voice R) : (setFreqs c det v).env = v.env := rfl
@[simp] theorem setFreqs_phase0 (c : Config R n) (det : R) (v : Voice R) :
    (setFreqs c det v).osc0.phase = v.osc0.phase := rfl
@[simp] theorem setFreqs_phase1 (c : Config R n) (det : R) (v : Voice R) :
    (setFreqs c det v).osc1.phase = v.osc1.phase := rfl
@[simp] theorem setFreqs_phase2 (c : Config R n) (det : R) (v : Voice R) :
    (setFreqs c det v).osc2.phase = v.osc2.phase := rfl

section Exact

variable {K : Type} [Field K] [LinearOrder K] [FloorRing K] [CharZero K] {c : Config K n}

/-- `set_freqs` leaves the frequencies of the note (R173, R175). -/
theorem setFreqs_tuned (hN : c.num.Exact) (det : K) (v : Voice K) : (setFreqs c det v).Tuned c det := by
  rw [setFreqs_eq hN]; exact ⟨rfl, rfl, rfl⟩

/-- `apply_detune` leaves an assigned voice tuned (R174, R175). -/
theorem detuneVoice_tuned (hN : c.num.Exact) (det : K) (v : Voice K) (h : (detuneVoice c det v).note ≠ -1) :
    (detuneVoice c det v).Tuned c det := by
  unfold detuneVoice at h ⊢
  split at h
  · contradiction
  · rw [if_neg (by assumption)]; exact setFreqs_tuned hN det v

/-- The pool after `apply_detune` is the pool before, retuned. -/
theorem retuned_map (hN : c.num.Exact) (det : K) (p : Pool K n) : Retuned c det p (p.map (detuneVoice c det)) := by
  intro i
  rw [getElem_poolMap]
  exact ⟨fun h => if_pos h, fun h => (if_neg h).trans (setFreqs_eq hN det _)⟩

theorem assignVoice_tuned (hN : c.num.Exact) (det : K) (m : Int) (vel : Nat) (v : Voice K) :
    (assignVoice c det m vel v).Tuned c det := setFreqs_tuned hN det _

end Exact

/-! ## Assignment -/

@[simp] theorem assignVoice_note (c : Config R n) (det : R) (m : Int) (vel : Nat) (v : Voice R) :
    (assignVoice c det m vel v).note = m := rfl
@[simp] theorem assignVoice_pressed (c : Config R n) (det : R) (m : Int) (vel : Nat) (v : Voice R) :
    (assignVoice c det m vel v).pressed = true := rfl
@[simp] theorem assignVoice_vel (c : Config R n) (det : R) (m : Int) (vel : Nat) (v : Voice R) :
    (assignVoice c det m vel v).vel = velocityLevel c.num vel := rfl
@[simp] theorem assignVoice_env (c : Config R n) (det : R) (m : Int) (vel : Nat) (v : Voice R) :
    (assignVoice c det m vel v).env = ⟨.attack, c.num.ofRat ENV_TRIGGER_LEVEL⟩ := rfl
@[simp] theorem assignVoice_phase0 (c : Config R n) (det : R) (m : Int) (vel : Nat) (v : Voice R) :
    (assignVoice c det m vel v).osc0.phase = v.osc0.phase := rfl
@[simp] theorem assignVoice_phase1 (c : Config R n) (det : R) (m : Int) (vel : Nat) (v : Voice R) :
    (assignVoice c det m vel v).osc1.phase = v.osc1.phase := rfl
@[simp] theorem assignVoice_phase2 (c : Config R n) (det : R) (m : Int) (vel : Nat) (v : Voice R) :
    (assignVoice c det m vel v).osc2.phase = v.osc2.phase := rfl

/-! ## Unassigned and assigned voices under `apply_detune` -/

theorem detuneVoice_of_unassigned {c : Config R n} {det : R} {v : Voice R} (h : v.note = -1) : detuneVoice c det v = v :=
  if_pos h

theorem detuneVoice_of_assigned {c : Config R n} {det : R} {v : Voice R} (h : v.note ≠ -1) :
    detuneVoice c det v = setFreqs c det v :=
  if_neg h

@[simp] theorem detuneVoice_note (c : Config R n) (det : R) (v : Voice R) : (detuneVoice c det v).note = v.note := by
  unfold detuneVoice; split <;> rfl

@[simp] theorem detuneVoice_pressed (c : Config R n) (det : R) (v : Voice R) :
    (detuneVoice c det v).pressed = v.pressed := by
  unfold detuneVoice; split <;> rfl

@[simp] theorem detuneVoice_vel (c : Config R n) (det : R) (v : Voice R) : (detuneVoice c det v).vel = v.vel := by
  unfold detuneVoice; split <;> rfl

@[simp] theorem detuneVoice_env (c : Config R n) (det : R) (v : Voice R) : (detuneVoice c det v).env = v.env := by
  unfold detuneVoice; split <;> rfl

@[simp] theorem detuneVoice_phase0 (c : Config R n) (det : R) (v : Voice R) :
    (detuneVoice c det v).osc0.phase = v.osc0.phase := by
  unfold detuneVoice; split <;> rfl

@[simp] theorem detuneVoice_phase1 (c : Config R n) (det : R) (v : Voice R) :
    (detuneVoice c det v).osc1.phase = v.osc1.phase := by
  unfold detuneVoice; split <;> rfl

@[simp] theorem detuneVoice_phase2 (c : Config R n) (det : R) (v : Voice R) :
    (detuneVoice c det v).osc2.phase = v.osc2.phase := by
  unfold detuneVoice; split <;> rfl

/-- `apply_detune` writes the pool and nothing else. -/
theorem applyDetune_eq (c : Config R n) (s : Synth R n) :
    applyDetune c s = s.setPool (s.pool.map (detuneVoice c (effectiveDetune s))) := rfl

@[simp] theorem effectiveDetune_setPool (s : Synth R n) (p : Pool R n) : effectiveDetune (s.setPool p) = effectiveDetune s := rfl
@[simp] theorem effectiveDetune_setFenv (s : Synth R n) (e : Envelope R) :
    effectiveDetune (s.setFenv e) = effectiveDetune s := rfl
@[simp] theorem effectiveDetune_setFlt (s : Synth R n) (f : Filter R) : effectiveDetune (s.setFlt f) = effectiveDetune s := rfl
@[simp] theorem effectiveDetune_setArp (s : Synth R n) (a : Arp R n) : effectiveDetune (s.setArp a) = effectiveDetune s := rfl
@[simp] theorem effectiveDetune_setSmpOut (s : Synth R n) (y : Option Sample) :
    effectiveDetune (s.setSmpOut y) = effectiveDetune s := rfl

/-! ## Reclaim -/

theorem reclaim_of_arp {c : Config R n} {s : Synth R n} (h : s.params.arpEn = true) : reclaim c s = s := if_pos h

theorem reclaim_of_nonarp {c : Config R n} {s : Synth R n} (h : s.params.arpEn = false) :
    reclaim c s = s.setPool (s.pool.map (reclaimVoice c.num)) := by
  simp [reclaim, h]

/-- The reclaim pass writes the pool and nothing else. -/
theorem reclaim_frame (c : Config R n) (s : Synth R n) : reclaim c s = s.setPool (reclaim c s).pool := by
  unfold reclaim; split <;> rfl

theorem reclaimVoice_eq (N : NumOps R) (v : Voice R) :
    reclaimVoice N v = { v with env := if v.env.state = .release then ⟨.idle, N.ofRat 0⟩ else v.env } := by
  unfold reclaimVoice; split <;> simp_all

/-! ## The ends of NOTE_ON and NOTE_OFF -/

theorem sortIfArp_frame (s : Synth R n) : sortIfArp s = s.setPool (sortIfArp s).pool := by
  unfold sortIfArp; split <;> rfl

theorem triggerFenv_eq (c : Config R n) (s : Synth R n) :
    triggerFenv c s = s.setFenv (if s.params.fEnvEn then envTrigger c s.fenv else s.fenv) := by
  unfold triggerFenv; split <;> rfl

theorem releaseFenv_eq (s : Synth R n) :
    releaseFenv s = s.setFenv (if s.params.fEnvEn then envRelease s.fenv else s.fenv) := by
  unfold releaseFenv; split <;> rfl

theorem sortIfArp_of_arp {s : Synth R n} (h : s.params.arpEn = true) : sortIfArp s = s.setPool (poolSort s.pool) := if_pos h

theorem sortIfArp_of_nonarp {s : Synth R n} (h : s.params.arpEn = false) : sortIfArp s = s := if_neg (by simp [h])

theorem envRelease_eq (e : Envelope R) :
    envRelease e = if e.state = .idle then e else { state := .release, out := e.out } := by
  obtain ⟨st, o⟩ := e
  cases st <;> simp [envRelease]

/-- The pool after the last line of NOTE_ON and NOTE_OFF. -/
theorem sortIfArp_eq (s : Synth R n) :
    sortIfArp s = s.setPool (if s.params.arpEn = true then poolSort s.pool else s.pool) := by
  unfold sortIfArp; split <;> rfl

/-- The assignment of a note writes the pool and the filter's envelope, and nothing else (R148, R156, R158). -/
theorem assignSlot_eq (c : Config R n) (i : Fin n) (note : Int) (velocity : Nat) (s : Synth R n) :
    assignSlot c i note velocity s =
      (s.setFenv (if s.params.fEnvEn then envTrigger c s.fenv else s.fenv)).setPool
        (if s.params.arpEn = true then
          poolSort (s.pool.set i (assignVoice c (effectiveDetune s) note velocity s.pool[i]))
        else s.pool.set i (assignVoice c (effectiveDetune s) note velocity s.pool[i])) := by
  unfold assignSlot; rw [sortIfArp_eq, triggerFenv_eq]; rfl

/-- A NOTE_OFF that found its slot writes the pool and the filter's envelope, and nothing else (R153, R156, R158). -/
theorem releaseSlot_eq (i : Fin n) (s : Synth R n) :
    releaseSlot i s =
      (s.setFenv (if s.params.fEnvEn then envRelease s.fenv else s.fenv)).setPool
        (if s.params.arpEn = true then poolSort (s.pool.set i (releaseVoice s.params.arpEn s.pool[i]))
        else s.pool.set i (releaseVoice s.params.arpEn s.pool[i])) := by
  unfold releaseSlot; rw [sortIfArp_eq, releaseFenv_eq]; rfl

/-- What NOTE_ON can do: nothing, the reclaim pass alone, or the reclaim pass and an assignment (R148). -/
theorem noteOn_cases (c : Config R n) (a : BitVec 8) (v : Half) (s : Synth R n) :
    (128 ≤ a.toNat ∧ noteOn c a v s = s) ∨
      (a.toNat ≤ 127 ∧ (∀ i : Fin n, isFree s.params.arpEn (reclaim c s).pool[i] = false) ∧
        noteOn c a v s = reclaim c s) ∨
      ∃ i : Fin n, a.toNat ≤ 127 ∧ isFree s.params.arpEn (reclaim c s).pool[i] = true ∧
        (∀ j < i, isFree s.params.arpEn (reclaim c s).pool[j] = false) ∧
        noteOn c a v s = assignSlot c i a.toNat (velocityOperand v) (reclaim c s) := by
  have hp : (reclaim c s).params = s.params := by rw [reclaim_frame]; rfl
  by_cases ha : a.toNat ≤ 127
  · have hn : noteOn c a v s = playNote c a.toNat (velocityOperand v) s := by
      rw [noteOn, noteOperand, if_pos ha]
    rw [hn, playNote, hp]
    cases hf : firstSlot (isFree s.params.arpEn) (reclaim c s).pool with
    | none => exact .inr (.inl ⟨ha, firstSlot_eq_none.mp hf, rfl⟩)
    | some i => exact .inr (.inr ⟨i, ha, (firstSlot_eq_some.mp hf).1, (firstSlot_eq_some.mp hf).2, rfl⟩)
  · exact .inl ⟨by omega, by rw [noteOn, noteOperand, if_neg ha]⟩

/-- What NOTE_OFF can do: nothing, or the release of the first slot that holds the note (R153). -/
theorem noteOff_cases (a : BitVec 8) (s : Synth R n) :
    (128 ≤ a.toNat ∧ noteOff a s = s) ∨
      (a.toNat ≤ 127 ∧ (∀ i : Fin n, holdsNote s.params.arpEn a.toNat s.pool[i] = false) ∧ noteOff a s = s) ∨
      ∃ i : Fin n, a.toNat ≤ 127 ∧ holdsNote s.params.arpEn a.toNat s.pool[i] = true ∧
        (∀ j < i, holdsNote s.params.arpEn a.toNat s.pool[j] = false) ∧ noteOff a s = releaseSlot i s := by
  by_cases ha : a.toNat ≤ 127
  · have hn : noteOff a s = stopNote a.toNat s := by rw [noteOff, noteOperand, if_pos ha]
    rw [hn, stopNote]
    cases hf : firstSlot (holdsNote s.params.arpEn a.toNat) s.pool with
    | none => exact .inr (.inl ⟨ha, firstSlot_eq_none.mp hf, rfl⟩)
    | some i => exact .inr (.inr ⟨i, ha, (firstSlot_eq_some.mp hf).1, (firstSlot_eq_some.mp hf).2, rfl⟩)
  · exact .inl ⟨by omega, by rw [noteOff, noteOperand, if_neg ha]⟩

/-! ## The sort -/

@[simp] theorem toList_poolSort (p : Pool R n) : (poolSort p).toList = sortedVoices p := rfl

theorem insertByNote_perm (x : Voice R) (vs : List (Voice R)) : List.Perm (insertByNote x vs) (x :: vs) := by
  induction vs with
  | nil => exact List.Perm.refl _
  | cons y ys ih =>
    simp only [insertByNote]
    split
    · exact List.Perm.refl _
    · exact (ih.cons y).trans (List.Perm.swap x y ys)

theorem sortPass_perm (vs : List (Voice R)) : List.Perm (sortPass vs) vs := by
  suffices h : ∀ acc : List (Voice R), List.Perm (vs.foldl (fun acc x => insertByNote x acc) acc) (vs ++ acc) by
    simpa [sortPass] using h []
  induction vs with
  | nil => intro acc; exact List.Perm.refl _
  | cons x xs ih =>
    intro acc
    exact (ih _).trans (((insertByNote_perm x acc).append_left xs).trans List.perm_middle)

theorem tailPass_perm (vs : List (Voice R)) : List.Perm (tailPass vs) vs := by
  have h := List.filter_append_perm (fun v : Voice R => decide (v.note ≠ -1)) vs
  simpa [tailPass] using h

/-- The sort permutes the records. -/
theorem sortedVoices_perm (p : Pool R n) : List.Perm (sortedVoices p) p.toList :=
  (tailPass_perm _).trans (sortPass_perm _)

/-! ## TICK's stages -/

theorem arpFire_phase [NeZero n] (c : Config R n) (s : Synth R n) : (arpFire c s).arp.phase = c.num.ofRat 0 := by
  unfold arpFire
  dsimp only
  split
  · rfl
  · unfold retriggerAt triggerFenv
    split
    · split <;> rfl
    · rfl

/-- `(index + 1) mod cnt`, as a number (R213). -/
theorem nextIndex_val [NeZero n] (i : Fin n) {cnt : Nat} (h0 : 0 < cnt) (h : cnt ≤ n) :
    (nextIndex i cnt).val = (i.val + 1) % cnt := by
  simp only [nextIndex, Fin.ofNat]
  exact Nat.mod_eq_of_lt ((Nat.mod_lt _ h0).trans_le h)

/-- `arp_step` writes the pool, the filter's envelope and the arpeggiator, and nothing else. -/
theorem arpStep_frame [NeZero n] (c : Config R n) (s : Synth R n) :
    arpStep c s = { s with pool := (arpStep c s).pool, fenv := (arpStep c s).fenv, arp := (arpStep c s).arp } := by
  unfold arpStep arpFire retriggerAt triggerFenv
  dsimp only
  split
  · split
    · rfl
    · split
      · split <;> rfl
      · rfl
  · rfl

/-- `lfo_update` writes the pool's frequencies, the filter's shadow and the LFO, and nothing else. -/
theorem lfoUpdate_frame (c : Config R n) (s : Synth R n) :
    lfoUpdate c s = { s with pool := (lfoUpdate c s).pool, flt := (lfoUpdate c s).flt, lfo := (lfoUpdate c s).lfo } := by
  unfold lfoUpdate routeLfo
  split <;> rfl

/-- The filter's part of a TICK writes `FENV` and `FLT`, and nothing else. -/
theorem tickFilter_frame (c : Config R n) (x : R) (s : Synth R n) :
    tickFilter c x s = { s with fenv := (tickFilter c x s).fenv, flt := (tickFilter c x s).flt } := by
  unfold tickFilter filterStep filterEnvStep
  split <;> rfl

/-- `arp_mode_switch` writes the pool, the parameter and the arpeggiator, and nothing else. -/
theorem arpModeSwitch_frame [NeZero n] (c : Config R n) (b : Bool) (s : Synth R n) :
    arpModeSwitch c b s =
      { s with pool := (arpModeSwitch c b s).pool, params := (arpModeSwitch c b s).params,
               arp := (arpModeSwitch c b s).arp } := by
  unfold arpModeSwitch; split <;> rfl

/-- `write_param` writes the pool, the parameters and the arpeggiator, and nothing else. -/
theorem writeParam_frame [NeZero n] (c : Config R n) (w : ParamWrite R) (s : Synth R n) :
    writeParam c w s =
      { s with pool := (writeParam c w s).pool, params := (writeParam c w s).params,
               arp := (writeParam c w s).arp } := by
  cases w <;> first | rfl | exact arpModeSwitch_frame c _ s

end Sys2Proof.Machine
end

