-- ==== Sys2Proof/Laws/Tick.lean ====
section
/-! SUPPORT. What each stage of a TICK leaves behind, field by field (spec/47_mixer_tick.md R236, R237), so that no proof
unfolds the whole TICK. -/

namespace Sys2Proof.Machine

variable {R : Type} {n : Nat}

/-! ## Step 1, the arpeggiator -/

@[simp] theorem tickArp_params [NeZero n] (c : Config R n) (s : Synth R n) : (tickArp c s).params = s.params := by
  unfold tickArp; split
  · rw [arpStep_frame]
  · rfl

@[simp] theorem tickArp_flt [NeZero n] (c : Config R n) (s : Synth R n) : (tickArp c s).flt = s.flt := by
  unfold tickArp; split
  · rw [arpStep_frame]
  · rfl

@[simp] theorem tickArp_lfo [NeZero n] (c : Config R n) (s : Synth R n) : (tickArp c s).lfo = s.lfo := by
  unfold tickArp; split
  · rw [arpStep_frame]
  · rfl

theorem tickArp_of_nonarp [NeZero n] {c : Config R n} {s : Synth R n} (h : s.params.arpEn = false) : tickArp c s = s :=
  if_neg (by simp [h])

theorem tickArp_of_arp [NeZero n] {c : Config R n} {s : Synth R n} (h : s.params.arpEn = true) : tickArp c s = arpStep c s :=
  if_pos h

/-- The step of the arpeggiator that does not fire adds to the tempo phase, and nothing else (R211). -/
theorem arpStep_of_lt [NeZero n] {c : Config R n} {s : Synth R n}
    (h : c.num.le (c.num.ofRat 1) (c.num.add s.arp.phase (tempoIncrement c s.params)) = false) :
    arpStep c s = s.setArp { s.arp with phase := c.num.add s.arp.phase (tempoIncrement c s.params) } :=
  if_neg (by simp [h])

theorem arpStep_of_le [NeZero n] {c : Config R n} {s : Synth R n}
    (h : c.num.le (c.num.ofRat 1) (c.num.add s.arp.phase (tempoIncrement c s.params)) = true) :
    arpStep c s = arpFire c s := if_pos h

/-- When the step fires, in exact arithmetic (R212). -/
theorem arpStep_fires {K : Type} [Field K] [LinearOrder K] [FloorRing K] [CharZero K] {c : Config K n}
    (hN : c.num.Exact) (s : Synth K n) :
    c.num.le (c.num.ofRat 1) (c.num.add s.arp.phase (tempoIncrement c s.params)) =
      decide (1 ≤ s.arp.phase + s.params.bpm / (60 * c.rate)) := by
  rw [hN.le, hN.add, hN.ofRat, tempoIncrement_eq hN, Rat.cast_one]

/-- The step that fires with nothing pressed only moves the arpeggiator (R217). -/
theorem arpFire_of_none [NeZero n] {c : Config R n} {s : Synth R n} (h : pressedCount s.pool = 0) :
    arpFire c s = s.setArp ⟨0, c.num.ofRat 0⟩ := if_pos h

/-- The step that fires with a note pressed (R211, R213, R214). -/
theorem arpFire_of_some [NeZero n] {c : Config R n} {s : Synth R n} (h : pressedCount s.pool ≠ 0) :
    arpFire c s =
      retriggerAt c (nextIndex s.arp.index (pressedCount s.pool))
        (s.setArp ⟨nextIndex s.arp.index (pressedCount s.pool), c.num.ofRat 0⟩) := if_neg h

/-- The re-trigger writes one envelope of the pool and the filter's envelope, and nothing else (R214). -/
theorem retriggerAt_eq (c : Config R n) (i : Fin n) (s : Synth R n) :
    retriggerAt c i s =
      if s.pool[i].pressed = true then
        (s.setPool (s.pool.set i { s.pool[i] with env := envTrigger c s.pool[i].env })).setFenv
          (if s.params.fEnvEn then envTrigger c s.fenv else s.fenv)
      else s := by
  unfold retriggerAt
  split
  · rw [triggerFenv_eq]; rfl
  · rfl

/-! ## Steps 2 and 3, the voices -/

@[simp] theorem getElem_renderPool (c : Config R n) (s : Synth R n) (i : Fin n) :
    (renderPool c s)[i] = if eligible s i = true then renderVoice c s.params s.pool[i] else s.pool[i] := by
  simp [renderPool]

@[simp] theorem renderVoice_note (c : Config R n) (p : Params R) (v : Voice R) : (renderVoice c p v).note = v.note := rfl
@[simp] theorem renderVoice_pressed (c : Config R n) (p : Params R) (v : Voice R) : (renderVoice c p v).pressed = v.pressed := rfl
@[simp] theorem renderVoice_vel (c : Config R n) (p : Params R) (v : Voice R) : (renderVoice c p v).vel = v.vel := rfl
@[simp] theorem renderVoice_env (c : Config R n) (p : Params R) (v : Voice R) :
    (renderVoice c p v).env = envAdvance c v.env p.adsr := rfl
@[simp] theorem renderVoice_freq0 (c : Config R n) (p : Params R) (v : Voice R) :
    (renderVoice c p v).osc0.freq = v.osc0.freq := rfl
@[simp] theorem renderVoice_freq1 (c : Config R n) (p : Params R) (v : Voice R) :
    (renderVoice c p v).osc1.freq = v.osc1.freq := rfl
@[simp] theorem renderVoice_freq2 (c : Config R n) (p : Params R) (v : Voice R) :
    (renderVoice c p v).osc2.freq = v.osc2.freq := rfl
@[simp] theorem renderVoice_phase0 (c : Config R n) (p : Params R) (v : Voice R) :
    (renderVoice c p v).osc0.phase = phaseStep c v.osc0.phase v.osc0.freq := rfl
@[simp] theorem renderVoice_phase1 (c : Config R n) (p : Params R) (v : Voice R) :
    (renderVoice c p v).osc1.phase = phaseStep c v.osc1.phase v.osc1.freq := rfl
@[simp] theorem renderVoice_phase2 (c : Config R n) (p : Params R) (v : Voice R) :
    (renderVoice c p v).osc2.phase = phaseStep c v.osc2.phase v.osc2.freq := rfl

/-! ## Step 4, the LFO -/

/-- The LFO's multiplier in this TICK (R196, R197). -/
abbrev tickMultiplier (c : Config R n) (s : Synth R n) : R := lfoMultiplier c.num s.params.lfoWave s.lfo.phase

theorem lfoUpdate_lfo (c : Config R n) (s : Synth R n) :
    (lfoUpdate c s).lfo =
      { phase := phaseStep c s.lfo.phase s.params.lfoFreq
        lfoDetune := if s.params.lfoTarget = .detune then c.num.mul (tickMultiplier c s) s.params.detune else s.lfo.lfoDetune
        lfoAmp := if s.params.lfoTarget = .amplitude then c.num.mul (tickMultiplier c s) s.params.amplitude else s.lfo.lfoAmp } := by
  have hp : (lfoPhaseStep c s).params = s.params := rfl
  unfold lfoUpdate routeLfo
  rw [hp]
  cases h : s.params.lfoTarget <;> rfl

theorem lfoUpdate_flt (c : Config R n) (s : Synth R n) :
    (lfoUpdate c s).flt =
      { s.flt with
        lfoCutoff := if s.params.lfoTarget = .cutoff then c.num.mul (tickMultiplier c s) s.params.cutoff else s.flt.lfoCutoff } := by
  have hp : (lfoPhaseStep c s).params = s.params := rfl
  unfold lfoUpdate routeLfo
  rw [hp]
  cases h : s.params.lfoTarget <;> rfl

theorem lfoUpdate_pool (c : Config R n) (s : Synth R n) :
    (lfoUpdate c s).pool =
      if s.params.lfoTarget = .detune then s.pool.map (detuneVoice c (c.num.mul (tickMultiplier c s) s.params.detune))
      else s.pool := by
  have hp : (lfoPhaseStep c s).params = s.params := rfl
  unfold lfoUpdate routeLfo
  rw [hp]
  cases h : s.params.lfoTarget with
  | detune =>
    rw [if_pos rfl]
    show s.pool.map (detuneVoice c (effectiveDetune _)) = _
    rw [effectiveDetune, if_pos (by exact h)]
    rfl
  | off => rfl
  | cutoff => rfl
  | amplitude => rfl

@[simp] theorem lfoUpdate_params (c : Config R n) (s : Synth R n) : (lfoUpdate c s).params = s.params := by
  rw [lfoUpdate_frame]

@[simp] theorem lfoUpdate_fenv (c : Config R n) (s : Synth R n) : (lfoUpdate c s).fenv = s.fenv := by
  rw [lfoUpdate_frame]

@[simp] theorem lfoUpdate_arp (c : Config R n) (s : Synth R n) : (lfoUpdate c s).arp = s.arp := by
  rw [lfoUpdate_frame]

/-! ## Steps 5 and 6, the filter -/

theorem filterEnvStep_fenv (c : Config R n) (s : Synth R n) :
    (filterEnvStep c s).fenv = if s.params.fEnvEn = true then envAdvance c s.fenv s.params.fAdsr else s.fenv := by
  unfold filterEnvStep; split <;> rfl

theorem filterEnvStep_flt (c : Config R n) (s : Synth R n) :
    (filterEnvStep c s).flt =
      { s.flt with
        envCutoff :=
          if s.params.fEnvEn = true then envelopeCutoff c s.params.cutoff (envAdvance c s.fenv s.params.fAdsr).out
          else s.flt.envCutoff } := by
  unfold filterEnvStep; split <;> rfl

@[simp] theorem filterEnvStep_params (c : Config R n) (s : Synth R n) : (filterEnvStep c s).params = s.params := by
  unfold filterEnvStep; split <;> rfl

/-! ## The whole TICK -/

/-- The state after steps 1 to 3 of a TICK: the voices are rendered. -/
abbrev tickRendered [NeZero n] (c : Config R n) (s : Synth R n) : Synth R n := tickVoices c (tickArp c s)

/-- The state after step 4 of a TICK: the LFO is updated. -/
abbrev tickModulated [NeZero n] (c : Config R n) (s : Synth R n) : Synth R n := lfoUpdate c (tickRendered c s)

/-- The mixed sample of a TICK (R231). -/
abbrev tickMixed [NeZero n] (c : Config R n) (s : Synth R n) : R :=
  mixed c (eligibleCount (tickArp c s)) (voiceSum c (tickArp c s)) (tickModulated c s)

theorem tick_pool [NeZero n] (c : Config R n) (s : Synth R n) : (tick c s).pool = (tickModulated c s).pool := by
  unfold tick emit
  simp only [Synth.setSmpOut_pool]
  rw [tickFilter_frame]

theorem tick_lfo [NeZero n] (c : Config R n) (s : Synth R n) : (tick c s).lfo = (tickModulated c s).lfo := by
  unfold tick emit
  simp only [Synth.setSmpOut_lfo]
  rw [tickFilter_frame]

theorem tick_arp [NeZero n] (c : Config R n) (s : Synth R n) : (tick c s).arp = (tickArp c s).arp := by
  unfold tick emit
  simp only [Synth.setSmpOut_arp]
  rw [tickFilter_frame]
  exact lfoUpdate_arp _ _

theorem tick_params [NeZero n] (c : Config R n) (s : Synth R n) : (tick c s).params = s.params := by
  unfold tick emit
  simp only [Synth.setSmpOut_params]
  rw [tickFilter_frame]
  exact (lfoUpdate_params _ _).trans (tickArp_params c s)

theorem tick_fenv [NeZero n] (c : Config R n) (s : Synth R n) :
    (tick c s).fenv =
      if s.params.fEnvEn = true then envAdvance c (tickArp c s).fenv s.params.fAdsr else (tickArp c s).fenv := by
  have h := filterEnvStep_fenv c (tickModulated c s)
  rw [lfoUpdate_params, lfoUpdate_fenv] at h
  have hp : (tickRendered c s).params = s.params := tickArp_params c s
  rw [hp] at h
  exact h

theorem tick_prevIn [NeZero n] (c : Config R n) (s : Synth R n) : (tick c s).flt.prevIn = tickMixed c s := rfl

theorem tick_prevOut [NeZero n] (c : Config R n) (s : Synth R n) :
    (tick c s).flt.prevOut = filterOut c (tickMixed c s) (filterEnvStep c (tickModulated c s)) := rfl

theorem tick_smpOut [NeZero n] (c : Config R n) (s : Synth R n) :
    (tick c s).smpOut = some (BitVec.ofInt 16 (quantise c (tick c s).flt.prevOut)) := rfl

theorem tick_envCutoff [NeZero n] (c : Config R n) (s : Synth R n) :
    (tick c s).flt.envCutoff = (filterEnvStep c (tickModulated c s)).flt.envCutoff := rfl

theorem tick_lfoCutoff [NeZero n] (c : Config R n) (s : Synth R n) :
    (tick c s).flt.lfoCutoff = (tickModulated c s).flt.lfoCutoff := by
  show (filterEnvStep c (tickModulated c s)).flt.lfoCutoff = _
  rw [filterEnvStep_flt]

/-- A TICK writes the pool, `FLT`, `FENV`, `LFO`, `ARP` and the sample port, and nothing else (R237). -/
theorem tick_frame [NeZero n] (c : Config R n) (s : Synth R n) :
    tick c s =
      { s with
        pool := (tick c s).pool, flt := (tick c s).flt, fenv := (tick c s).fenv, lfo := (tick c s).lfo,
        arp := (tick c s).arp, smpOut := (tick c s).smpOut } := by
  have hf : ∀ x t, tickFilter c x t = { t with fenv := (tickFilter c x t).fenv, flt := (tickFilter c x t).flt } :=
    tickFilter_frame c
  have hl := lfoUpdate_frame c (tickRendered c s)
  have ha : tickArp c s =
      { s with pool := (tickArp c s).pool, fenv := (tickArp c s).fenv, arp := (tickArp c s).arp } := by
    unfold tickArp; split
    · exact arpStep_frame c s
    · rfl
  have h1 := hf (tickMixed c s) (tickModulated c s)
  unfold tick emit Synth.setSmpOut
  dsimp only
  rw [hf, hl]
  unfold tickRendered tickVoices Synth.setPool
  rw [ha]

end Sys2Proof.Machine
end

