-- ==== Sys2Proof/Machine/Assembler.lean ====
section
/-! DEFINITION. The assembler of spec/30_encoding.md R93 and its pseudo-instructions (R94), on structured lines: the
engine never sees it. `enc(REG, x)` is exact, and refuses a value the format cannot hold. -/

namespace Sys2Proof.Machine

/-- `enc` for Q4.12 (R85, R93): the raw operand of a fraction that is exactly representable. -/
def encQ412 (x : ℚ) : Option Half :=
  let y := x * 4096
  if y.den = 1 ∧ -32768 ≤ y.num ∧ y.num ≤ 32767 then some (BitVec.ofInt 16 y.num) else none

/-- `enc` for an unsigned format with the given denominator: 256 for UQ8.8, 16 for UQ12.4 (R86, R93). -/
def encUnsigned (scale : Nat) (x : ℚ) : Option Half :=
  let y := x * scale
  if y.den = 1 ∧ 0 ≤ y.num ∧ y.num ≤ 65535 then some (BitVec.ofInt 16 y.num) else none

/-- `enc(REG, x)` for the register and value of a write (R93): the raw operand of SET. -/
def encOperand : ParamWrite ℚ → Option Half
  | .attack x => encQ412 x
  | .decay x => encQ412 x
  | .sustain x => encQ412 x
  | .release x => encQ412 x
  | .fAttack x => encQ412 x
  | .fDecay x => encQ412 x
  | .fSustain x => encQ412 x
  | .fRelease x => encQ412 x
  | .cutoff x => encQ412 x
  | .fEnvEn b => some (if b then 1 else 0)
  | .waveA w => some (w.code.setWidth 16)
  | .waveB w => some (w.code.setWidth 16)
  | .waveC w => some (w.code.setWidth 16)
  | .detune x => encQ412 x
  | .amplitude x => encQ412 x
  | .lfoTarget t => some (t.code.setWidth 16)
  | .lfoWave w => some (w.code.setWidth 16)
  | .lfoFreq x => encUnsigned 256 x
  | .arpEn b => some (if b then 1 else 0)
  | .bpm x => encUnsigned 16 x

/-- The line `SET.<REG> x` (R93): its word, unless the format cannot hold `x`. -/
def assembleSet (w : ParamWrite ℚ) : Option Word := (encOperand w).map (wordOf 0x04#8 (BitVec.ofNat 8 w.id))

/-- `RENDER n` (R94). -/
def pseudoRender (n : Nat) : List Instr := List.replicate n .tick

/-- `BUFFER` (R94): one buffer of the host's main loop (R362). -/
def pseudoBuffer {R : Type} {n : Nat} (c : Config R n) : List Instr := pseudoRender c.buffer

/-- `PRESET r0, …, r14` (R94): the fields in index order, then the commit. -/
def pseudoPreset (raw : Vector Half FIELDS) : List Instr :=
  ((List.finRange FIELDS).map fun i => .presetField (BitVec.ofNat 8 i.val) raw[i]) ++ [.presetCommit]

/-- The words of a program, in the order the host sends them (R28). -/
def assemble (program : List Instr) : List Word := program.map encode

end Sys2Proof.Machine
end

