-- ==== Sys2Proof/Tests/Slice0.lean ====
section
/-! SUPPORT. Small tests, with expected values from spec/95_test_vectors.md and the rules' own examples, and for each
statement with hypotheses a witness that meets them. -/

namespace Sys2Proof.Tests

open Sys2Proof.Machine

set_option Elab.async false

/-! ## Ill-formed terms, one for each check of WellFormed (R83, R87, R88, R92) -/

theorem test_refused_note : (Instr.noteOn 128 64).wellFormed = false := by decide
theorem test_refused_velocity : (Instr.noteOn 60 0).wellFormed = false := by decide
theorem test_refused_controller : (Instr.ccCutoff 128).wellFormed = false := by decide
theorem test_refused_enum : (Instr.setWaveA 4).wellFormed = false := by decide
theorem test_refused_bool : (Instr.setArpEn 2).wellFormed = false := by decide
theorem test_refused_field : (Instr.presetField 15 0).wellFormed = false := by decide
theorem test_accepted : (Instr.noteOn 127 127).wellFormed = true ∧ (Instr.setWaveA 3).wellFormed = true ∧
    (Instr.presetField 14 0xFFFF).wellFormed = true := by decide

/-! ## Words written out from R82, R91 and R93: every constructor -/

theorem test_decode_notes : decode 0x0145007F#32 = .ok (.noteOn 69 127) ∧ decode 0x02450000#32 = .ok (.noteOff 69) := by
  decide

theorem test_decode_cc : decode 0x0300007F#32 = .ok (.ccAttack 127) ∧ decode 0x03010040#32 = .ok (.ccDecay 64) ∧
    decode 0x03020000#32 = .ok (.ccSustain 0) ∧ decode 0x0303007F#32 = .ok (.ccRelease 127) ∧
    decode 0x03080001#32 = .ok (.ccCutoff 1) ∧ decode 0x030A001F#32 = .ok (.ccWaveA 31) ∧
    decode 0x030B005F#32 = .ok (.ccWaveB 95) ∧ decode 0x030C0060#32 = .ok (.ccWaveC 96) ∧
    decode 0x030D0040#32 = .ok (.ccDetune 64) ∧ decode 0x030E0000#32 = .ok (.ccAmplitude 0) := by decide

theorem test_decode_set : decode 0x04002000#32 = .ok (.setAttack 0x2000) ∧ decode 0x04010004#32 = .ok (.setDecay 4) ∧
    decode 0x04020800#32 = .ok (.setSustain 0x800) ∧ decode 0x04030040#32 = .ok (.setRelease 64) ∧
    decode 0x04040001#32 = .ok (.setFAttack 1) ∧ decode 0x04050002#32 = .ok (.setFDecay 2) ∧
    decode 0x04060003#32 = .ok (.setFSustain 3) ∧ decode 0x04070004#32 = .ok (.setFRelease 4) ∧
    decode 0x04080800#32 = .ok (.setCutoff 0x800) ∧ decode 0x04090002#32 = .ok (.setFEnvEn 2) ∧
    decode 0x040A0001#32 = .ok (.setWaveA 1) ∧ decode 0x040B0001#32 = .ok (.setWaveB 1) ∧
    decode 0x040C0001#32 = .ok (.setWaveC 1) ∧ decode 0x040DF000#32 = .ok (.setDetune 0xF000) ∧
    decode 0x040E0800#32 = .ok (.setAmplitude 0x800) ∧ decode 0x040F0002#32 = .ok (.setLfoTarget 2) ∧
    decode 0x0410FFFF#32 = .ok (.setLfoWave 0xFFFF) ∧ decode 0x0411AC44#32 = .ok (.setLfoFreq 0xAC44) ∧
    decode 0x04120005#32 = .ok (.setArpEn 5) ∧ decode 0x0413FA00#32 = .ok (.setBpm 0xFA00) := by decide

theorem test_decode_rest : decode 0x00ABCDEF#32 = .ok .nop ∧ decode 0x050E0800#32 = .ok (.presetField 14 0x800) ∧
    decode 0x06000000#32 = .ok .presetCommit ∧ decode 0x07000000#32 = .ok .presetAbort ∧
    decode 0x08FFFFFF#32 = .ok .tick := by decide

/-- One word written out bit by bit: `OP = 00000100`, `A = 00010001`, `V` (R80). -/
theorem test_decode_bits : decode 0b00000100000100011010110001000100#32 = .ok (.setLfoFreq 0xAC44) := by decide

/-- R89: the words beside the table's rows (T30-3, T30-8, T30-9), and a partial word (R66). -/
theorem test_decode_reserved : decode 0xFF123456#32 = .error (.opcode 255) ∧ decode 0x0309007F#32 = .error (.ccId 9) ∧
    decode 0x03FF0001#32 = .error (.ccId 255) ∧ decode 0x04FFFFFF#32 = .error (.setId 255) ∧
    decodeOrNop 0x09000000#32 = .nop ∧ decodeBytes [0, 0, 8] = .error .partialWord := by decide

/-- R65: the least-significant byte comes first; the transport's bytes of `NOTE_ON 69, 100`, and a byte after it. -/
theorem test_decode_bytes : decodeBytes [0x64, 0x00, 0x45, 0x01, 0xAA] = .ok (.noteOn 69 100, [0xAA]) ∧
    bytesOfWord 0x01450064#32 = [0x64, 0x00, 0x45, 0x01] := by decide

/-- R65: a sample of −2, and two samples in order. -/
theorem test_sample_bytes : bytesOfSample (BitVec.ofInt 16 (-2)) = [0xFE, 0xFF] ∧ sampleOfBytes 0x34 0x12 = 0x1234 ∧
    bytesOfSamples [0x0102, 0x0304] = [0x02, 0x01, 0x04, 0x03] := by decide

theorem test_decode_table_word : decodeTableWord 32 0x0413FA00 = some (.setBpm 0xFA00) ∧
    decodeTableWord 32 0x04140000 = none ∧ decodeTableWord 40 0 = none := by decide

/-- The rows of spec/opcode_table.json: 37, pairwise disjoint in their patterns. -/
theorem test_table : opcodeTable.length = 37 ∧ (opcodeTable.map (·.pattern)).Nodup ∧
    (opcodeTable.map (·.mnemonic)).Nodup := by decide

/-- R93: `enc` is exact, and refuses a value the format cannot hold. -/
theorem test_assembler : encQ412 (1 / 1024) = some 0x0004 ∧ encQ412 (-1) = some 0xF000 ∧ encQ412 (1 / 3) = none ∧
    encUnsigned 256 (11025 / 64) = some 0xAC44 ∧ encUnsigned 16 4000 = some 0xFA00 ∧
    assembleSet (.release (1 / 64)) = some 0x04030040 ∧ assembleSet (.lfoTarget .detune) = some 0x040F0002 ∧
    assemble (pseudoRender 2) = [0x08000000#32, 0x08000000#32] := by decide +kernel

/-! ## One step -/

/-- The state after one step, or none where the step gives none. -/
def stepped (s : State) : Option State :=
  match step s with
  | .next t => some t
  | .fault f => nomatch f
  | .refused _ => none

/-- The state with the word `w` at the head of the command port. -/
def offered (s : State) (w : Word) : State := ⟨offerWord s.toSynth w⟩

/-- The state after the step that takes the word `w`; a state in reset where the step gives none. -/
def after (w : Word) (s : State) : State := (stepped (offered s w)).getD { s with rst := true }

/-- The start-up patch of R342. -/
def patch : Params ℚ := Params.reset engine.num

/-- Reset, with one voice in slot 0 and other parameters. -/
def sound (v : Voice ℚ) (p : Params ℚ) : State := { State.reset with pool := State.reset.pool.set 0 v, params := p }

/-- A voice with one frequency and phase for its three oscillators. -/
def tone (note : Int) (vel freq phase : ℚ) (e : Envelope ℚ) : Voice ℚ :=
  { note := note, pressed := true, vel := vel, osc0 := ⟨freq, phase⟩, osc1 := ⟨freq, phase⟩, osc2 := ⟨freq, phase⟩,
    env := e }

theorem test_nop : after 0x00ABCDEF#32 State.reset = State.reset := by decide +kernel

/-- T30-5: raw velocity 0 is velocity 1, and no note-off. -/
theorem test_note_on : ((after 0x013C0000#32 State.reset).pool[0]).note = 60 ∧
    ((after 0x013C0000#32 State.reset).pool[0]).vel = 1 / 127 ∧
    ((after 0x013C0000#32 State.reset).pool[0]).env = ⟨.attack, 1 / 1000⟩ := by decide +kernel

/-- T43-2: the second oscillator gets the plus; the frequencies differ by `5·det`. -/
theorem test_note_on_detuned :
    (((after 0x0145007F#32 { State.reset with params := { patch with detune := 1 } }).pool[0]).osc1.freq = 885) ∧
    (((after 0x0145007F#32 { State.reset with params := { patch with detune := 1 } }).pool[0]).osc2.freq = 875) := by
  decide +kernel

/-- T42-1 step 3: the first of two voices of one note is released at its level and keeps its note. -/
theorem test_note_off :
    (after 0x023C0000#32 (sound (tone 60 1 440 0 ⟨.attack, 1 / 1000⟩) patch)).pool[0] =
      tone 60 1 440 0 ⟨.release, 1 / 1000⟩ := by decide +kernel

/-- T42-3: in arpeggio mode the voice loses its note and moves behind the assigned ones. -/
theorem test_note_off_arp :
    ((after 0x02280000#32 { sound (tone 40 1 440 0 ⟨.sustain, 1⟩) { patch with arpEn := true } with
      pool := (State.reset.pool.set 0 (tone 40 1 440 0 ⟨.sustain, 1⟩)).set 1 (tone 45 1 220 0 ⟨.sustain, 1⟩) }).pool.toList.map
        fun v => (v.note, v.pressed)) =
      [(45, true), (-1, false), (-1, false), (-1, false), (-1, false), (-1, false)] := by decide +kernel

theorem test_cc_attack : (after 0x0300007F#32 State.reset).params = { patch with attack := 2 } := by decide +kernel
theorem test_cc_decay : (after 0x03010040#32 State.reset).params = { patch with decay := 128 / 127 } := by
  decide +kernel
theorem test_cc_sustain : (after 0x03020000#32 State.reset).params = { patch with sustain := 0 } := by decide +kernel
theorem test_cc_release : (after 0x0303007F#32 State.reset).params = { patch with release := 1 } := by decide +kernel
theorem test_cc_cutoff : (after 0x03080001#32 State.reset).params = { patch with cutoff := 1 / 127 } := by
  decide +kernel
theorem test_cc_wave_a : (after 0x030A0020#32 State.reset).params = { patch with waveA := .square } := by
  decide +kernel
theorem test_cc_wave_b : (after 0x030B005F#32 State.reset).params = { patch with waveB := .triangle } := by
  decide +kernel
theorem test_cc_wave_c : (after 0x030C0060#32 State.reset).params = { patch with waveC := .sawtooth } := by
  decide +kernel
theorem test_cc_detune : (after 0x030D0040#32 State.reset).params = { patch with detune := 64 / 127 } := by
  decide +kernel
theorem test_cc_amplitude : (after 0x030E0000#32 State.reset).params = { patch with amplitude := 0 } := by
  decide +kernel
theorem test_set_attack : (after 0x04002001#32 State.reset).params = { patch with attack := 2 } := by decide +kernel
theorem test_set_attack_negative : (after 0x0400FFFF#32 State.reset).params = patch := by decide +kernel
theorem test_set_decay : (after 0x04010004#32 State.reset).params = { patch with decay := 1 / 1024 } := by
  decide +kernel
theorem test_set_sustain : (after 0x04020800#32 State.reset).params = { patch with sustain := 1 / 2 } := by
  decide +kernel
theorem test_set_release : (after 0x04030040#32 State.reset).params = { patch with release := 1 / 64 } := by
  decide +kernel
theorem test_set_f_attack : (after 0x04042000#32 State.reset).params = { patch with fAttack := 2 } := by
  decide +kernel
theorem test_set_f_decay : (after 0x04051000#32 State.reset).params = { patch with fDecay := 1 } := by decide +kernel
theorem test_set_f_sustain : (after 0x04060800#32 State.reset).params = { patch with fSustain := 1 / 2 } := by
  decide +kernel
theorem test_set_f_release : (after 0x04077FFF#32 State.reset).params = { patch with fRelease := 1 } := by
  decide +kernel
theorem test_set_cutoff : (after 0x04080001#32 State.reset).params = { patch with cutoff := 1 / 4096 } := by
  decide +kernel
theorem test_set_f_env_en : (after 0x0409FFFF#32 State.reset).params = { patch with fEnvEn := true } := by
  decide +kernel
theorem test_set_wave_a : (after 0x040A0004#32 State.reset).params = { patch with waveA := .sawtooth } := by
  decide +kernel
theorem test_set_wave_b : (after 0x040B0002#32 State.reset).params = { patch with waveB := .triangle } := by
  decide +kernel
theorem test_set_wave_c : (after 0x040C0001#32 State.reset).params = { patch with waveC := .square } := by
  decide +kernel
/-- T43-1 step 2. -/
theorem test_set_detune :
    (after 0x040D0800#32 (sound (tone 69 1 880 0 ⟨.attack, 1 / 1000⟩) patch)).pool[0] =
      { tone 69 1 880 0 ⟨.attack, 1 / 1000⟩ with osc1 := ⟨1765 / 2, 0⟩, osc2 := ⟨1755 / 2, 0⟩ } := by decide +kernel
theorem test_set_amplitude : (after 0x040E0800#32 State.reset).params = { patch with amplitude := 1 / 2 } := by
  decide +kernel
/-- T43-1 step 4: the effective detune is now the shadow, 0. -/
theorem test_set_lfo_target :
    ((after 0x040F0002#32 (sound { tone 69 1 880 0 ⟨.attack, 1 / 1000⟩ with osc1 := ⟨885, 0⟩, osc2 := ⟨875, 0⟩ }
      { patch with detune := 1 })).pool[0]).osc1.freq = 880 := by decide +kernel
theorem test_set_lfo_wave : (after 0x0410FFFF#32 State.reset).params = { patch with lfoWave := .sawtooth } := by
  decide +kernel
theorem test_set_lfo_freq : (after 0x0411FFFF#32 State.reset).params = { patch with lfoFreq := 65535 / 256 } := by
  decide +kernel
/-- T46-10: the mode switch forgets the note and keeps the oscillators. -/
theorem test_set_arp_en :
    (after 0x04120005#32 (sound (tone 69 1 880 (1 / 4) ⟨.sustain, 1⟩) patch)).pool[0] =
      { tone 69 1 880 (1 / 4) ⟨.idle, 0⟩ with note := -1, pressed := false, vel := 0 } := by decide +kernel
theorem test_set_bpm : (after 0x04130001#32 State.reset).params = { patch with bpm := 1 / 16 } := by decide +kernel
theorem test_preset_field : (after 0x050E0800#32 State.reset).stg[14] = 0x800 ∧
    (after 0x050E0800#32 State.reset).stgv[14] = true ∧ (after 0x050F1234#32 State.reset) = State.reset := by decide +kernel

/-- The fifteen staged fields of R299. -/
def staged (raw10 : Half) (valid7 : Bool) : State :=
  { State.reset with
    stg := #v[0x0004, 0x0400, 0x0800, 0x0800, 0, 0, 0x1000, 0, 0x3000, 0, raw10, 2, 3, 0xF000, 0x0800]
    stgv := (Vector.replicate 15 true).set 7 valid7 }

/-- R299, accepted. -/
theorem test_preset_commit : (after 0x06000000#32 (staged 1 true)).params =
    { patch with
      attack := 1 / 1024, decay := 1 / 4, sustain := 1 / 2, release := 1 / 2, cutoff := 1, waveA := .square,
      waveB := .triangle, waveC := .sawtooth, detune := 0, amplitude := 1 / 2 } := by decide +kernel

/-- R299, rejected for field 10, and for the missing field 7. -/
theorem test_preset_commit_rejected :
    after 0x06000000#32 (staged 4 true) = { staged 4 true with stgv := Vector.replicate 15 false, presetErr := true } ∧
    after 0x06000000#32 (staged 1 false) = { staged 1 false with stgv := Vector.replicate 15 false, presetErr := true } := by
  decide +kernel

theorem test_preset_abort : after 0x07000000#32 (staged 1 true) =
    { staged 1 true with stgv := Vector.replicate 15 false, presetErr := true } := by decide +kernel

/-- P1 TICK 1: three squares at phase 0. -/
theorem test_tick_square :
    (after 0x08000000#32 (sound (tone 81 1 1760 0 ⟨.attack, 1 / 1000⟩)
      { patch with waveA := .square, waveB := .square, waveC := .square })).smpOut = some 14414 := by decide +kernel

/-- P4 TICK 1: the detune reaches the frequencies after the voices were rendered. -/
def p4 : State :=
  sound (tone 57 1 440 0 ⟨.attack, 1 / 1000⟩)
    { patch with
      attack := 1 / 1024, decay := 1 / 1024, sustain := 1 / 2, release := 1 / 1024, waveA := .sawtooth,
      waveB := .sawtooth, waveC := .sawtooth, detune := 1, lfoWave := .square, lfoFreq := 11025 / 64,
      lfoTarget := .detune }

theorem test_tick_lfo_detune : (after 0x08000000#32 p4).smpOut = some (BitVec.ofInt 16 (-349)) ∧
    (after 0x08000000#32 p4).lfo = ⟨1 / 256, 1, 0⟩ ∧
    (after 0x08000000#32 p4).pool[0] =
      { tone 57 1 440 (22 / 2205) ⟨.attack, 10681 / 441000⟩ with osc1 := ⟨445, 22 / 2205⟩, osc2 := ⟨435, 22 / 2205⟩ } := by
  decide +kernel

/-- R174: with the target Detune, an unassigned voice keeps its frequencies. -/
theorem test_tick_unassigned :
    ((after 0x08000000#32 { p4 with pool := State.reset.pool.set 0 (tone (-1) 1 440 0 ⟨.release, 1⟩) }).pool[0]).osc1.freq =
      440 := by decide +kernel

/-- The port after a TICK: the engine is not ready for a command, and the next step hands the sample over (R81, R84). -/
theorem test_hand_off : cmdReady (after 0x08000000#32 State.reset).toSynth = false ∧
    stepped (after 0x08000000#32 State.reset) = some { after 0x08000000#32 State.reset with smpOut := none, sink := [0] } := by
  decide +kernel

/-- The host's word placement runs the word as the first command after reset. -/
theorem test_with_fetch_word : stepped (State.reset.withFetchWord 32 0x04130001) =
    some { State.reset with params := { patch with bpm := 1 / 16 } } := by decide +kernel

/-- The engine with one voice, another start-up patch and other tuning: R9's record is an argument of the step. -/
theorem test_other_configuration :
    (stepWith { engine with resetParams := { patch with bpm := 90 } }
      { State.reset.toSynth with rst := true }).params.bpm = 90 ∧
    (stepWith (defaultConfig engineNum : Config ℚ 1)
      (offerWord (Synth.reset (defaultConfig engineNum)) 0x0139007F)).pool.toList.map
        (fun v => (v.note, v.osc0.freq)) = [(57, 440)] := by decide +kernel

/-! ## Operations -/

/-- T40-1, T40-2, T40-8, T40-11, T40-12, T40-13, T40-16, T40-18. -/
theorem test_envelope :
    envAdvance engine ⟨.idle, 0⟩ ⟨1 / 1024, 1 / 4, 1 / 2, 1 / 2⟩ = ⟨.idle, 0⟩ ∧
    envAdvance engine ⟨.attack, 1 / 1000⟩ ⟨1 / 1024, 1 / 4, 1 / 2, 1 / 2⟩ = ⟨.attack, 10681 / 441000⟩ ∧
    envAdvance engine ⟨.decay, 1⟩ ⟨1 / 1024, 1 / 4, 1 / 2, 1 / 2⟩ = ⟨.decay, 22049 / 22050⟩ ∧
    envAdvance engine ⟨.decay, 50001 / 100000⟩ ⟨1 / 1024, 1 / 4, 1 / 2, 1 / 2⟩ = ⟨.sustain, 1 / 2⟩ ∧
    envAdvance engine ⟨.decay, 1 / 4⟩ ⟨1 / 1024, 1 / 4, 1 / 2, 1 / 2⟩ = ⟨.sustain, 1 / 2⟩ ∧
    envAdvance engine ⟨.decay, 1⟩ ⟨0, 0, 0, 1 / 2⟩ = ⟨.release, 1 / 2⟩ ∧
    envAdvance engine ⟨.sustain, 1 / 2⟩ ⟨1 / 1024, 1 / 4, 0, 1 / 2⟩ = ⟨.release, 22049 / 44100⟩ ∧
    envAdvance engine ⟨.release, 1⟩ ⟨1 / 1024, 1 / 4, 1 / 2, 1 / 1024⟩ = ⟨.release, 10769 / 11025⟩ := by decide +kernel

/-- The table of spec/95_test_vectors.md 3.3 at 1/4, 3/8, 7/8, and the sine at 1/8 to twelve digits. -/
theorem test_wave :
    [Waveform.sine, .square, .triangle, .sawtooth].map (wave engine.num · (1 / 4)) = [1, 1, 0, -1 / 2] ∧
    [Waveform.square, .triangle, .sawtooth].map (wave engine.num · (3 / 8)) = [1, 1 / 2, -1 / 4] ∧
    [Waveform.square, .triangle, .sawtooth].map (wave engine.num · (7 / 8)) = [-1, -1 / 2, 3 / 4] ∧
    |wave engine.num .sine (1 / 8) - 707106781187 / 10 ^ 12| < 1 / 10 ^ 12 := by decide +kernel

/-- `F` at the exact octaves, and at 60 to ten digits (R178). -/
theorem test_frequencies : [21, 57, 117].map engine.noteFreq = [55, 440, 14080] ∧
    |engine.noteFreq 60 - 523251130601 / 10 ^ 9| < 1 / 10 ^ 9 ∧ |engine.noteFreq 127 - 250877079028 / 10 ^ 7| < 1 / 10 ^ 7 := by
  decide +kernel

/-- T44-1 and T47-1 to twelve digits, and T47-2. -/
theorem test_filter_gain_quantise :
    |alpha engine (1 / 2) - 281969800123 / 10 ^ 12| < 1 / 10 ^ 12 ∧
    |gain engine patch 6 - 408248290464 / 10 ^ 12| < 1 / 10 ^ 12 ∧ gain engine patch 0 = 1 ∧
    [1, -1, 1 / 2, -1 / 2, 1 / 32768, -1 / 32768].map (quantise engine) = [32767, -32767, 16383, -16383, 0, 0] := by
  decide +kernel

/-- P3: the arpeggiator's step 662, from the state after 661 TICKs: index 1, re-triggered. -/
theorem test_arp_step :
    ((arpStep engine { State.reset.toSynth with
      pool := ((State.reset.pool.set 0 (tone 40 1 1 0 ⟨.sustain, 1⟩)).set 1 (tone 45 1 1 0 ⟨.sustain, 1⟩))
      params := { patch with arpEn := true, bpm := 4000 }
      arp := ⟨0, 1322 / 1323⟩ }).arp = ⟨1, 0⟩) ∧
    ((arpStep engine { State.reset.toSynth with
      pool := ((State.reset.pool.set 0 (tone 40 1 1 0 ⟨.sustain, 1⟩)).set 1 (tone 45 1 1 0 ⟨.sustain, 1⟩))
      params := { patch with arpEn := true, bpm := 4000 }
      arp := ⟨0, 1322 / 1323⟩ }).pool[1]).env = ⟨.attack, 1 / 1000⟩ := by decide +kernel

/-! ## Witnesses: for each statement with hypotheses, values that meet them -/

/-- A configuration that is not the machine's: coarse functions that have the properties of U1 all the same. -/
def toy : Config ℚ VOICES where
  rate := 69
  buffer := 1
  a4Reference := 57
  num := exactNum (fun p => if p = 1 / 4 then 1 else if p = 3 / 4 then -1 else 0) (fun x => (2 : ℚ) ^ ⌊x⌋)
    (fun x => if x = 4 then 2 else 1) 3
  decayTarget0 _ _ r := r
  quantRound := truncate
  fullScale := 32767
  resetParams := patch

theorem toy_noteFreq (n : Int) : toy.noteFreq n = 440 * (2 : ℚ) ^ ⌊((n : ℚ) - 57) / 12⌋ := noteFreq_eq (exactNum_exact _ _ _ _) n

theorem toy_floor (n : Int) : ⌊((n : ℚ) - 57) / 12⌋ = (n - 57) / 12 := by
  have h := Rat.floor_intCast_div_natCast (n - 57) 12
  push_cast at h ⊢
  exact h

theorem patch_ok : patch.Ok := by
  refine ⟨⟨?_, ?_, ?_, ?_⟩, ⟨?_, ?_, ?_, ?_⟩, ?_, ?_, ?_, ?_, ?_⟩
  all_goals decide +kernel

/-- `Config.Legal` can be met. -/
theorem witness_legal : toy.Legal where
  exact := exactNum_exact _ _ _ _
  rate_large := le_refl _
  sin_zero := by decide +kernel
  sin_quarter := by decide +kernel
  sin_half := by decide +kernel
  sin_three_quarters := by decide +kernel
  sin_bound p := by simp only [toy, exactNum]; split_ifs <;> norm_num
  pow2_zero := by decide +kernel
  octave n _ := by
    have h : ((n : Int) + 12 - 57) / 12 = ((n : Int) - 57) / 12 + 1 := by omega
    rw [toy_noteFreq, toy_noteFreq, toy_floor, toy_floor, h, zpow_add₀ two_ne_zero, zpow_one]
    have : (0 : ℚ) ≤ 440 * 2 ^ (((n : Int) - 57) / 12) := by positivity
    rw [show (440 : ℚ) * (2 ^ (((n : Int) - 57) / 12) * 2) - 2 * (440 * 2 ^ (((n : Int) - 57) / 12)) = 0 by ring,
      abs_zero]
    positivity
  freq_floor n _ := by
    rw [toy_noteFreq, toy_floor]
    have : (2 : ℚ) ^ (-5 : Int) ≤ 2 ^ (((n : Int) - 57) / 12) := zpow_le_zpow_right₀ one_le_two (by omega)
    norm_num at this ⊢
    linarith
  sqrt_one := by decide +kernel
  sqrt_four := by decide +kernel
  one_le_sqrt n _ := by simp only [toy, exactNum]; split_ifs <;> norm_num
  pi_pos := by decide +kernel
  target_level _ _ _ h0 h1 := ⟨h0, h1⟩
  quant_bound y hy := by
    apply abs_truncate_le
    rw [abs_mul, Nat.abs_cast]
    exact mul_le_of_le_one_left (Nat.cast_nonneg _) hy
  full_scale_le := le_refl _
  reset_params := patch_ok

/-- A sounding voice: 440 Hz, a quarter of a period in, sustained. -/
def a440 : Voice ℚ := tone 57 1 440 (1 / 4) ⟨.sustain, 1⟩

/-- One sounding voice and the reset patch, in either mode. -/
def one (arp : Bool) : State := sound a440 { patch with arpEn := arp }

theorem one_slot (arp : Bool) (i : Fin VOICES) : (one arp).pool[i] = if i = 0 then a440 else Voice.reset engine.num := by
  fin_cases i <;> rfl

/-- The invariant can be met, in both modes, by a state in which a voice sounds. -/
theorem witness_inv (c : Config ℚ VOICES) (h : c.noteFreq 57 = 440) (arp : Bool) : Inv c (one arp).toSynth where
  voice i := by
    rw [one_slot]
    split
    · refine ⟨.inr (by decide), .inr ⟨127, by decide +kernel⟩, ⟨by decide +kernel, by decide⟩, ?_, ?_, ?_, ?_, ?_, ?_⟩
      all_goals decide +kernel
    · refine ⟨.inl rfl, .inl rfl, ⟨by decide +kernel, by decide +kernel⟩, ?_, ?_, ?_, ?_, ?_, ?_⟩
      all_goals decide +kernel
  tuned i hi := by
    rw [one_slot] at hi ⊢
    split
    · have hd : effectiveDetune (one arp).toSynth = 0 := rfl
      simp [Voice.Tuned, a440, tone, h, hd]
    · rename_i h0
      rw [if_neg h0] at hi
      exact absurd rfl hi
  params := by
    refine ⟨⟨?_, ?_, ?_, ?_⟩, ⟨?_, ?_, ?_, ?_⟩, ?_, ?_, ?_, ?_, ?_⟩
    all_goals cases arp <;> decide +kernel
  fenv := by cases arp <;> exact ⟨by decide +kernel, by decide +kernel⟩
  envCutoff := by cases arp <;> decide +kernel
  lfoCutoff := by cases arp <;> decide +kernel
  prevOut := by cases arp <;> decide +kernel
  prevIn := by cases arp <;> decide +kernel
  lfoPhase := by cases arp <;> decide +kernel
  lfoDetune := by cases arp <;> decide +kernel
  lfoAmp := by cases arp <;> decide +kernel
  arpPhase := by cases arp <;> decide +kernel
  arpOrder _ := by
    refine ⟨fun i => ?_, fun i j hij => ?_⟩
    · rw [one_slot]; split <;> decide
    · rw [one_slot, one_slot]
      intro hj
      by_cases h0 : j = 0
      · subst h0; exact absurd hij (Fin.not_lt_zero i)
      · rw [if_neg h0] at hj; exact absurd hj (by decide)

/-- The invariant reads no port. -/
theorem inv_offerWord {c : Config ℚ VOICES} {s : Synth ℚ VOICES} (h : Inv c s) (w : Word) : Inv c (offerWord s w) :=
  ⟨h.voice, h.tuned, h.params, h.fenv, h.envCutoff, h.lfoCutoff, h.prevOut, h.prevIn, h.lfoPhase, h.lfoDetune, h.lfoAmp,
    h.arpPhase, h.arpOrder⟩

theorem toy_440 : toy.noteFreq 57 = 440 := by decide +kernel
theorem engine_440 : engine.noteFreq 57 = 440 := by decide +kernel

theorem witness_UnusedFieldsAreIgnored : decode 0x08FFFFFF#32 = .ok .tick ∧
    0x08FFFFFF#32 &&& Instr.tick.usedMask = 0x08000000#32 &&& Instr.tick.usedMask := by decide

theorem witness_DecodingIsRowSelection : (∃ r ∈ opcodeTable, r.selects 0x0413FA00#32 = true) ∧
    ∀ r ∈ opcodeTable, r.selects 0x09000000#32 = false := by decide

theorem witness_StepRunsTheDecodedCommand : (offered (one false) 0x0145007F#32).rst = false ∧
    (offered (one false) 0x0145007F#32).smpOut = none ∧ (offered (one false) 0x0145007F#32).cmdIn = [0x0145007F#32] ∧
    decode 0x0145007F#32 = .ok (.noteOn 69 127) := by decide +kernel

/-- The five encodings, at the ends of their ranges. -/
theorem witness_ReservedWordsExecuteAsNop : 9 ≤ (opField 0x09000000#32).toNat ∧
    (opField 0x03040000#32 = 3 ∧ (aField 0x03040000#32).toNat ∉ [0, 1, 2, 3, 8, 10, 11, 12, 13, 14]) ∧
    (opField 0x030F0000#32 = 3 ∧ (aField 0x030F0000#32).toNat ∉ [0, 1, 2, 3, 8, 10, 11, 12, 13, 14]) ∧
    (opField 0x04140000#32 = 4 ∧ 20 ≤ (aField 0x04140000#32).toNat) ∧
    (opField 0x050F0000#32 = 5 ∧ 15 ≤ (aField 0x050F0000#32).toNat) ∧
    (opField 0x01800000#32 = 1 ∧ 128 ≤ (aField 0x01800000#32).toNat) ∧
    (opField 0x02800000#32 = 2 ∧ 128 ≤ (aField 0x02800000#32).toNat) := by decide

theorem witness_ResetInputRestoresResetState : { one false with rst := true }.rst = true ∧
    { (one true).toSynth with rst := true }.rst = true := ⟨rfl, rfl⟩

theorem witness_SampleWaitsForTheSink : (one false).rst = false ∧
    ({ one false with smpOut := some 5 }.smpOut = some 5 ∧ { one false with smpOut := some 5 }.smpReady = true) ∧
    { one false with smpOut := some 5, smpReady := false }.smpReady = false ∧ (one false).smpOut = none ∧
    (one false).cmdIn = [] := by decide +kernel

theorem witness_OneSamplePerTickInOrder : TakesTick (offered (one false) 0x08000000#32).toSynth ∧
    ¬TakesTick (offered (one false) 0x00000000#32).toSynth ∧
    ∃ t, step (offered (one false) 0x00000000#32) = .next t := by
  refine ⟨⟨rfl, rfl, _, _, rfl, by decide⟩, ?_, _, rfl⟩
  rintro ⟨-, -, w, ws, h, hw⟩
  cases h
  exact absurd hw (by decide)

/-- Under a configuration that is not the machine's. -/
theorem witness_EngineConfigurationIsLegal : toy.Legal := witness_legal

/-- A legal configuration with another start-up patch, in arpeggio mode. -/
theorem witness_ResetMeetsInvariant :
    ({ toy with resetParams := { patch with cutoff := 0, arpEn := true } } : Config ℚ VOICES).Legal :=
  { witness_legal with
    reset_params := by
      refine ⟨⟨?_, ?_, ?_, ?_⟩, ⟨?_, ?_, ?_, ?_⟩, ?_, ?_, ?_, ?_, ?_⟩
      all_goals decide +kernel }

theorem witness_StepKeepsInvariant : Inv engine (offered (one true) 0x08000000#32).toSynth ∧
    ∃ t, step (offered (one true) 0x08000000#32) = .next t :=
  ⟨inv_offerWord (witness_inv engine engine_440 true) _, _, rfl⟩

/-- Also for SamplesStayInRange and VoiceSumIsBounded, in both modes. -/
theorem witness_CommandsKeepInvariantForEveryConfiguration :
    toy.Legal ∧ Inv toy (one false).toSynth ∧ Inv toy (one true).toSynth ∧
    (one true).params.arpEn = true :=
  ⟨witness_legal, witness_inv toy toy_440 false, witness_inv toy toy_440 true, rfl⟩

theorem witness_FullScaleIsNeverReached : Inv engine (one false).toSynth ∧ -1 < (one false).flt.prevOut ∧
    (one false).flt.prevOut < 1 :=
  ⟨witness_inv engine engine_440 false, by decide +kernel, by decide +kernel⟩

theorem witness_ConstantsAreNearIdeal : (1 ≤ 6 ∧ 6 ≤ 6) ∧ 127 ≤ 127 := by decide

/-- The reset patch's times are 0, its sustain level is 1. -/
theorem witness_ZeroTimesResolveInOneAdvance : engine.num.Exact ∧ patch.adsr.a = 0 ∧ (patch.adsr.d = 0 ∧ 0 < patch.adsr.s) ∧
    ((⟨0, 0, 0, 1⟩ : Adsr ℚ).d = 0 ∧ (⟨0, 0, 0, 1⟩ : Adsr ℚ).s = 0) ∧ patch.adsr.r = 0 :=
  ⟨engine_exact, by decide +kernel, by decide +kernel, by decide +kernel, by decide +kernel⟩

/-- T40-5's parameters: the 44th call reaches 1. -/
theorem witness_AttackRisesLinearly : 0 < engine.rate ∧ (0 : ℚ) < 1 / 1024 ∧
    (1 : ℚ) / 1000 + (43 : Nat) / (1 / 1024 * engine.rate) < 1 ∧
    (1 : ℚ) ≤ 1 / 1000 + ((43 : Nat) + 1) / (1 / 1024 * engine.rate) := by decide +kernel

/-- P4's parameters: 43 calls stay above the target and the 44th reaches it. A whole number of calls, with a positive
sustain level and with a sustain level of 0. A target of 1 entered at 1. -/
theorem witness_DecayFallsLinearly : engine.num.Exact ∧ (0 : ℚ) < 1 / 1024 ∧
    (∀ k : Nat, 1 ≤ k → k ≤ 43 → (1 / 2 : ℚ) < 1 - k * ((1 - 1 / 2) / (1 / 1024 * engine.rate))) ∧
    (1 : ℚ) - ((43 : Nat) + 1) * ((1 - 1 / 2) / (1 / 1024 * engine.rate)) ≤ 1 / 2 ∧
    (0 < 11025 ∧ (1 / 4 : ℚ) * engine.rate = (11025 : Nat)) ∧ (0 : ℚ) < 1 / 4 ∧ (1 / 2 : ℚ) < 1 ∧
    engine.decayTarget0 (1 / 4) 0 (1 / 4) < 1 ∧ ((1 : ℚ) ≤ patch.sustain ∧ patch.sustain ≤ 1) := by
  refine ⟨engine_exact, by norm_num, fun k _ hk => ?_, ?_, ?_, by norm_num, by norm_num, ?_, ?_⟩
  · have : (k : ℚ) ≤ 43 := by exact_mod_cast hk
    norm_num [engine_rate]
    linarith
  all_goals decide +kernel

theorem witness_ReleaseFallsGeometrically : 0 < engine.rate ∧ (0 : ℚ) < 1 / 1024 ∧
    (∀ k, 1 ≤ k → k ≤ 1 → (1 : ℚ) / 1000 < 1 * (1 - 1 / (1 / 1024 * engine.rate)) ^ k) ∧
    (1 / 1000 : ℚ) * (1 - 1 / (1 / 1024 * engine.rate)) ^ 1 ≤ 1 / 1000 := by
  refine ⟨by decide, by decide +kernel, fun k h1 h2 => ?_, by decide +kernel⟩
  obtain rfl : k = 1 := by omega
  decide +kernel

theorem witness_SustainHoldsOrReleases : (⟨0, 0, 1, 0⟩ : Adsr ℚ).s ≠ 0 ∧ (⟨0, 0, 0, 0⟩ : Adsr ℚ).s = 0 := by decide +kernel

theorem witness_EnvelopesStayInRange : toy.Legal ∧ patch.adsr.Ok ∧ (⟨.attack, 1 / 1000⟩ : Envelope ℚ).Ok :=
  ⟨witness_legal, (witness_inv toy toy_440 false).params.adsr, by decide +kernel, by decide +kernel⟩

/-- One advance that stays in Attack, one in Decay, one in Release. -/
theorem witness_EnvelopesAreMonotone : toy.Legal ∧ (⟨1, 1, 1 / 2, 1⟩ : Adsr ℚ).Ok ∧ (⟨.attack, 1 / 2⟩ : Envelope ℚ).Ok ∧
    (⟨.decay, 1⟩ : Envelope ℚ).Ok ∧ (⟨.release, 1⟩ : Envelope ℚ).Ok ∧
    (envAdvance toy ⟨.attack, 1 / 2⟩ ⟨1, 1, 1 / 2, 1⟩).state = .attack ∧
    (envAdvance toy ⟨.decay, 1⟩ ⟨1, 1, 1 / 2, 1⟩).state = .decay ∧
    (envAdvance toy ⟨.release, 1⟩ ⟨1, 1, 1 / 2, 1⟩).state = .release := by
  refine ⟨witness_legal, ⟨?_, ?_, ?_, ?_⟩, ⟨?_, ?_⟩, ⟨?_, ?_⟩, ⟨?_, ?_⟩, ?_, ?_, ?_⟩
  all_goals decide +kernel

/-- Also for LfoMultiplierIsRectified. -/
theorem witness_WaveformsStayInRange : toy.Legal ∧ PhaseOk (0 : ℚ) ∧ PhaseOk (4409 / 4410 : ℚ) :=
  ⟨witness_legal, by decide +kernel, by decide +kernel⟩

/-- 2205 steps at 440 Hz are 22 periods (R141). -/
theorem witness_PhaseAccumulates : PhaseOk (0 : ℚ) ∧ ∃ m : Int, ((2205 : Nat) : ℚ) * (440 / engine.rate) = m :=
  ⟨by decide +kernel, 22, by decide +kernel⟩

theorem witness_TickRoutesTheLfo : p4.params.lfoTarget = .detune ∧ p4.pool[0].note ≠ -1 ∧ p4.pool[1].note = -1 ∧
    (one false).params.lfoTarget ≠ .detune := by decide +kernel

/-- Six sounding voices, in Sustain and pressed. -/
def full (arp : Bool) : State := { one arp with pool := Vector.replicate VOICES a440 }

/-- Slot 0 sounds and slot 1 is the first free one; an Idle slot and a releasing one. -/
theorem witness_NoteOnTakesTheFirstFreeVoice : (69 : BitVec 8).toNat ≤ 127 ∧ (one false).params.arpEn = false ∧
    ((one false).pool[(1 : Fin VOICES)].env.state = .idle ∨ (one false).pool[(1 : Fin VOICES)].env.state = .release) ∧
    (∀ j < (1 : Fin VOICES), (one false).pool[j].env.state ≠ .idle ∧ (one false).pool[j].env.state ≠ .release) ∧
    (sound { a440 with env := ⟨.release, 1 / 2⟩ } patch).pool[(0 : Fin VOICES)].env.state = .release := by
  decide +kernel

theorem witness_NoteOnInArpeggioModeSorts : (127 : BitVec 8).toNat ≤ 127 ∧ (one true).params.arpEn = true ∧
    (one true).pool[(1 : Fin VOICES)].pressed = false ∧ ∀ j < (1 : Fin VOICES), (one true).pool[j].pressed = true := by
  decide +kernel

theorem witness_NoteOnDropsWhenPoolIsFull :
    ((full false).params.arpEn = false ∧
      ∀ i : Fin VOICES, (full false).pool[i].env.state ≠ .idle ∧ (full false).pool[i].env.state ≠ .release) ∧
    (full true).params.arpEn = true ∧ ∀ i : Fin VOICES, (full true).pool[i].pressed = true := by decide +kernel

theorem witness_NoteOffReleasesTheFirstMatch : (57 : BitVec 8).toNat ≤ 127 ∧ (full false).params.arpEn = false ∧
    (full false).pool[(0 : Fin VOICES)].note = (57 : BitVec 8).toNat ∧
    (full false).pool[(0 : Fin VOICES)].env.state ≠ .idle ∧ (full false).pool[(0 : Fin VOICES)].env.state ≠ .release ∧
    ∀ j < (0 : Fin VOICES), (full false).pool[j].note = (57 : BitVec 8).toNat →
      (full false).pool[j].env.state = .idle ∨ (full false).pool[j].env.state = .release := by decide +kernel

theorem witness_NoteOffInArpeggioModeForgets : (57 : BitVec 8).toNat ≤ 127 ∧ (full true).params.arpEn = true ∧
    (full true).pool[(0 : Fin VOICES)].note = (57 : BitVec 8).toNat ∧ (full true).pool[(0 : Fin VOICES)].pressed = true ∧
    ∀ j < (0 : Fin VOICES), (full true).pool[j].note = (57 : BitVec 8).toNat → (full true).pool[j].pressed = false := by
  decide +kernel

theorem witness_NoteOffWithoutMatchChangesNothing :
    (∀ i : Fin VOICES, (full false).pool[i].note = (58 : BitVec 8).toNat →
      (full false).pool[i].env.state = .idle ∨ (full false).pool[i].env.state = .release) ∧
    ∀ i : Fin VOICES, (full true).pool[i].note = (58 : BitVec 8).toNat → (full true).pool[i].pressed = false := by
  decide +kernel

theorem witness_SortIsStableAndAscending : (0 : Fin VOICES) < 1 ∧ (poolSort (full true).pool)[(1 : Fin VOICES)].note ≠ -1 := by
  decide +kernel

theorem witness_FilterCoefficient : toy.Legal ∧ (0 : ℚ) ≤ 0 ∧ (0 : ℚ) < 1 ∧
    resolveCutoff toy { (one false).toSynth with params := { patch with cutoff := 0 } } = 0 :=
  ⟨witness_legal, le_refl _, zero_lt_one, by decide +kernel⟩

/-- `BPM = 4000`: the step comes in the 662nd TICK (T46-1, T46-2). -/
theorem witness_ArpeggiatorPeriod : (one true).arp.phase = 0 ∧ (0 : ℚ) ≤ 4000 ∧
    (661 : Nat) * ((4000 : ℚ) / (60 * engine.rate)) < 1 ∧ (1 : ℚ) ≤ ((661 : Nat) + 1) * (4000 / (60 * engine.rate)) := by
  decide +kernel

/-- A TICK that does not fire, one that fires with a note pressed, and one that fires with none; the filter's envelope
disabled and enabled. -/
theorem witness_TickInArpeggioMode : (one true).params.arpEn = true ∧ (one true).params.fEnvEn = false ∧
    (sound a440 { patch with arpEn := true, fEnvEn := true }).params.fEnvEn = true ∧
    (one true).arp.phase + (one true).params.bpm / (60 * 44100) < 1 ∧
    (1 : ℚ) ≤ 22049 / 22050 + (one true).params.bpm / (60 * 44100) ∧ (one true).pool[(0 : Fin VOICES)].pressed = true ∧
    ∀ i : Fin VOICES, State.reset.pool[i].pressed = false := by decide +kernel

theorem witness_ArpeggioModeSwitchForgetsNotes : decide ((0 : Half) ≠ 0) = (one false).params.arpEn ∧
    decide ((5 : Half) ≠ 0) ≠ (one false).params.arpEn := by decide

theorem witness_TickFrame : (one false).params.lfoTarget ≠ .detune ∧ (p4.params.lfoTarget = .detune ∧ p4.pool[1].note = -1) ∧
    (one false).params.fEnvEn = false ∧ (one false).params.arpEn = false ∧
    (one false).pool[(1 : Fin VOICES)].env.state = .idle := by decide +kernel

theorem witness_TickComputesTheSample : (one false).params.arpEn = false ∧
    (0 : Fin VOICES) ∈ Finset.univ.filter fun i : Fin VOICES => (one false).pool[i].env.state ≠ .idle := by decide +kernel

theorem witness_SilenceRingsDown : State.reset.params.arpEn = false ∧
    (∀ i : Fin VOICES, State.reset.pool[i].env.state = .idle) ∧ State.reset.flt.prevOut = 0 := by decide +kernel

theorem witness_RegisterWriteChangesOneRegister : 12 ≠ (ParamWrite.detune 1).id ∧ 20 ≠ (ParamWrite.bpm 1).id := by decide

theorem witness_PresetFieldStages : (14 : BitVec 8).toNat = (14 : Fin FIELDS).val ∧ 15 ≤ (15 : BitVec 8).toNat := by
  decide

theorem witness_PresetCommitAcceptsCompleteRecords : (∀ i : Fin FIELDS, (staged 3 true).stgv[i] = true) ∧
    (staged 3 true).stg[9].toNat ≤ 1 ∧ (staged 3 true).stg[10].toNat ≤ 3 ∧ (staged 3 true).stg[11].toNat ≤ 3 ∧
    (staged 3 true).stg[12].toNat ≤ 3 := by decide +kernel

/-- Each reason to reject: a field missing, and each of the four enumerations. -/
theorem witness_PresetRejectionLeavesEngineAlone : (staged 3 false).stgv[(7 : Fin FIELDS)] = false ∧
    2 ≤ ((staged 3 true).setStg ((staged 3 true).stg.set 9 2)).stg[9].toNat ∧ 4 ≤ (staged 4 true).stg[10].toNat ∧
    4 ≤ ((staged 3 true).setStg ((staged 3 true).stg.set 11 4)).stg[11].toNat ∧
    4 ≤ ((staged 3 true).setStg ((staged 3 true).stg.set 12 4)).stg[12].toNat := by decide +kernel

/-- Also for OnlyTickMovesPhasesAndFilter. -/
theorem witness_OnlyPresetCommandsWriteTheFlag : ∃ t, exec (.setBpm 1) (one false) = .next t ∧
    Instr.setBpm 1 ≠ .presetCommit ∧ Instr.setBpm 1 ≠ .presetAbort ∧ Instr.setBpm 1 ≠ .tick ∧
    (∀ a v, Instr.setBpm 1 ≠ .presetField a v) ∧ (∀ a v, Instr.setBpm 1 ≠ .noteOn a v) ∧ ∀ a, Instr.setBpm 1 ≠ .noteOff a :=
  ⟨_, rfl, by decide, by decide, by decide, nofun, nofun, nofun⟩

theorem witness_StagingDoesNotInterfere : SameSound State.reset.toSynth (staged 4 true).toSynth ∧ Instr.tick ≠ .presetCommit ∧
    (∃ t, exec .tick State.reset = .next t) ∧ ∃ t, exec .tick (staged 4 true) = .next t :=
  ⟨rfl, by decide, ⟨_, rfl⟩, _, rfl⟩

end Sys2Proof.Tests
end

section
/-! PROOF. The machine's `SQRT` and `POW2` (spec/00_scope.md R10): what the digit-by-digit root computes, the points
where the two functions are exact (U1 items 3 and 4), and their distance from the real functions. -/

namespace Sys2Proof.Machine

/-! ## The integer root -/

theorem rootDigits_pow_le {b n k : Nat} (hb : b ≠ 0) (hk : n < (2 ^ k) ^ b) : rootDigits b n k 0 ^ b ≤ n :=
  (rootDigits_bracket b n k 0 (by simp [hb]) (by simpa using hk)).1

theorem lt_rootDigits_succ_pow {b n k : Nat} (hb : b ≠ 0) (hk : n < (2 ^ k) ^ b) : n < (rootDigits b n k 0 + 1) ^ b :=
  (rootDigits_bracket b n k 0 (by simp [hb]) (by simpa using hk)).2

theorem le_rootDigits {b m n k : Nat} (hb : b ≠ 0) (hk : n < (2 ^ k) ^ b) (h : m ^ b ≤ n) : m ≤ rootDigits b n k 0 :=
  Nat.le_of_lt_succ (lt_of_pow_lt_pow_left' b (h.trans_lt (lt_rootDigits_succ_pow hb hk)))

theorem rootDigits_pow {b m k : Nat} (hb : b ≠ 0) (hk : m ^ b < (2 ^ k) ^ b) : rootDigits b (m ^ b) k 0 = m :=
  le_antisymm ((Nat.pow_le_pow_iff_left hb).mp (rootDigits_pow_le hb hk)) (le_rootDigits hb hk le_rfl)

/-- The number of digits `POW2` asks for is enough. -/
theorem lt_two_pow_log2_div_pow {b : Nat} (hb : b ≠ 0) (n : Nat) : n < (2 ^ (n.log2 / b + 1)) ^ b := by
  rw [← pow_mul]
  have h : n.log2 + 1 ≤ (n.log2 / b + 1) * b := by
    rw [mul_comm]; exact Nat.lt_mul_div_succ _ (Nat.pos_of_ne_zero hb)
  exact Nat.lt_log2_self.trans_le (Nat.pow_le_pow_right two_pos h)

/-- The number of digits `SQRT` asks for is enough. -/
theorem lt_two_pow_log2_pow_two (n : Nat) : n < (2 ^ (n.log2 + 1)) ^ 2 :=
  Nat.lt_log2_self.trans_le (Nat.le_self_pow two_ne_zero _)

theorem grid_pos {K : Type} [Field K] [LinearOrder K] [IsStrictOrderedRing K] : (0 : K) < (grid : K) := by
  simp [grid]

/-- The root on the grid is the real root to within one step of the grid. -/
theorem abs_rootDigits_div_grid_sub_le {b n k : Nat} (hb : b ≠ 0) (hk : n < (2 ^ k) ^ b) {z : ℝ} (hz : 0 ≤ z)
    (hn : (z * grid) ^ b = n) : |(rootDigits b n k 0 : ℝ) / grid - z| ≤ 1 / grid := by
  have hg : (0 : ℝ) < grid := grid_pos
  have hle : (rootDigits b n k 0 : ℝ) ≤ z * grid := by
    refine le_of_pow_le_pow_left₀ hb (by positivity) ?_
    rw [hn]; exact_mod_cast rootDigits_pow_le hb hk
  have hlt : z * grid < rootDigits b n k 0 + 1 := by
    refine lt_of_pow_lt_pow_left₀ b (by positivity) ?_
    rw [hn]; exact_mod_cast lt_rootDigits_succ_pow hb hk
  rw [div_sub' hg.ne', abs_div, abs_of_pos hg]
  gcongr
  rw [abs_le]; constructor <;> linarith

/-! ## `SQRT` on the natural numbers -/

theorem sqrt_natCast (m : Nat) :
    sqrt m = (rootDigits 2 (m * grid ^ 2) ((m * grid ^ 2).log2 + 1) 0 : ℚ) / grid := by
  have h : ⌊(m : ℚ) * (grid * grid)⌋.toNat = m * grid ^ 2 := by
    rw [← sq]; exact_mod_cast Int.toNat_natCast (m * grid ^ 2)
  rw [sqrt]; simp only [h]

theorem sqrt_sq (m : Nat) : sqrt ((m ^ 2 : Nat) : ℚ) = m := by
  rw [sqrt_natCast, ← mul_pow, rootDigits_pow two_ne_zero (lt_two_pow_log2_pow_two _), Nat.cast_mul,
    mul_div_cancel_right₀ _ grid_pos.ne']

theorem one_le_sqrt {m : Nat} (hm : 1 ≤ m) : 1 ≤ sqrt m := by
  rw [sqrt_natCast, one_le_div grid_pos]
  exact_mod_cast le_rootDigits two_ne_zero (lt_two_pow_log2_pow_two _) (Nat.le_mul_of_pos_left _ hm)

theorem abs_sqrt_sub_le (m : Nat) : |((sqrt m : ℚ) : ℝ) - Real.sqrt m| ≤ 1 / grid := by
  rw [sqrt_natCast]
  push_cast
  refine abs_rootDigits_div_grid_sub_le two_ne_zero (lt_two_pow_log2_pow_two _) (Real.sqrt_nonneg _) ?_
  rw [mul_pow, Real.sq_sqrt (Nat.cast_nonneg m)]
  push_cast; rfl

/-! ## `POW2` -/

/-- The root that `POW2` takes on `[0,1)`, in steps of the grid. -/
def pow2Root (f : ℚ) : Nat :=
  rootDigits f.den (2 ^ f.num.toNat * grid ^ f.den) ((2 ^ f.num.toNat * grid ^ f.den).log2 / f.den + 1) 0

theorem pow2_eq (x : ℚ) : pow2 x = 2 ^ ⌊x⌋ * (pow2Root (Int.fract x) / grid) := by rw [pow2]; rfl

theorem pow2Root_zero : pow2Root 0 = grid := by
  simpa [pow2Root] using rootDigits_pow one_ne_zero (lt_two_pow_log2_div_pow one_ne_zero (grid ^ 1))

theorem grid_le_pow2Root (f : ℚ) : grid ≤ pow2Root f :=
  le_rootDigits f.den_nz (lt_two_pow_log2_div_pow f.den_nz _) (Nat.le_mul_of_pos_left _ (by positivity))

theorem pow2_zero : pow2 0 = 1 := by
  rw [pow2_eq, Int.fract_zero, pow2Root_zero, div_self grid_pos.ne']; simp

theorem pow2_add_one (x : ℚ) : pow2 (x + 1) = 2 * pow2 x := by
  rw [pow2_eq, pow2_eq, Int.fract_add_one, Int.floor_add_one, zpow_add_one₀ two_ne_zero]; ring

theorem two_zpow_floor_le_pow2 (x : ℚ) : 2 ^ ⌊x⌋ ≤ pow2 x := by
  rw [pow2_eq]
  refine le_mul_of_one_le_right (by positivity) ?_
  rw [one_le_div grid_pos]; exact_mod_cast grid_le_pow2Root _

theorem abs_pow2Root_sub_le {f : ℚ} (hf : 0 ≤ f) : |(pow2Root f : ℝ) / grid - 2 ^ (f : ℝ)| ≤ 1 / grid := by
  refine abs_rootDigits_div_grid_sub_le f.den_nz (lt_two_pow_log2_div_pow f.den_nz _) (by positivity) ?_
  have hnum : (f : ℝ) * f.den = f.num.toNat :=
    calc (f : ℝ) * f.den = f.num := by exact_mod_cast Rat.mul_den_eq_num f
      _ = (f.num.toNat : Int) := by rw [Int.toNat_of_nonneg (Rat.num_nonneg.mpr hf)]
      _ = f.num.toNat := Int.cast_natCast _
  rw [mul_pow, ← Real.rpow_mul_natCast zero_le_two, hnum, Real.rpow_natCast]
  push_cast; rfl

theorem abs_pow2_sub_le (x : ℚ) : |((pow2 x : ℚ) : ℝ) - 2 ^ (x : ℝ)| ≤ 2 ^ ⌊x⌋ / grid := by
  have hx : (2 : ℝ) ^ (x : ℝ) = 2 ^ ⌊x⌋ * 2 ^ ((Int.fract x : ℚ) : ℝ) := by
    rw [← Real.rpow_intCast, ← Real.rpow_add two_pos]
    congr 1; exact_mod_cast (Int.floor_add_fract x).symm
  rw [pow2_eq, hx]
  push_cast
  rw [← mul_sub, abs_mul, abs_of_pos (by positivity), div_eq_mul_one_div (2 ^ ⌊x⌋)]
  gcongr
  exact_mod_cast abs_pow2Root_sub_le (Int.fract_nonneg x)

end Sys2Proof.Machine
end

section
/-! PROOF. O18: the constants of the machine's `NUM` are near the real values (spec/00_scope.md R10, assumption
log 1). -/

namespace Sys2Proof.Machine

theorem abs_piValue_sub_pi_le : |((piValue : ℚ) : ℝ) - Real.pi| ≤ 1 / 10 ^ 20 := by
  have h1 := Real.pi_gt_d20
  have h2 := Real.pi_lt_d20
  rw [piValue, abs_le]
  norm_num at h1 h2 ⊢
  constructor <;> linarith

theorem engine_noteFreq (m : Int) : engine.noteFreq m = 440 * pow2 (((m : ℚ) - 57) / 12) := by
  simp [noteFreq_eq engine_exact]

/-- A note is at most five octaves and ten semitones above the reference 57. -/
theorem floor_note_le {m : Nat} (hm : m ≤ 127) : ⌊((m : ℚ) - 57) / 12⌋ ≤ 5 := by
  have h : (m : ℚ) ≤ 127 := by exact_mod_cast hm
  exact Int.floor_le_iff.mpr (by push_cast; linarith)

theorem abs_noteFreq_sub_le {m : Nat} (hm : m ≤ 127) :
    |((engine.noteFreq m : ℚ) : ℝ) - 440 * (2 : ℝ) ^ (((m : ℝ) - 57) / 12)| ≤ 1 / 10 ^ 13 := by
  have hpow : |((pow2 (((m : ℚ) - 57) / 12) : ℚ) : ℝ) - 2 ^ (((m : ℝ) - 57) / 12)| ≤ 2 ^ 5 / grid := by
    have h := abs_pow2_sub_le (((m : ℚ) - 57) / 12)
    push_cast at h ⊢
    refine h.trans ?_
    rw [← zpow_natCast]
    gcongr
    · exact one_le_two
    · exact floor_note_le hm
  rw [engine_noteFreq, Int.cast_natCast]
  push_cast at hpow ⊢
  rw [← mul_sub, abs_mul, abs_of_pos (by norm_num)]
  calc _ ≤ 440 * ((2 : ℝ) ^ 5 / grid) := by gcongr
    _ ≤ 1 / 10 ^ 13 := by norm_num [grid]

/-- Settles O18: each function is within one step of the grid of the real one, scaled for a note by at most five
octaves. -/
theorem constantsAreNearIdeal : Obligations.ConstantsAreNearIdeal := by
  refine ⟨abs_piValue_sub_pi_le.trans (by norm_num), fun m _ _ => ?_, fun m hm => abs_noteFreq_sub_le hm⟩
  exact (abs_sqrt_sub_le m).trans (by norm_num [grid])

end Sys2Proof.Machine
end

section
/-! PROOF. O19: the machine's `SIN2PI` is near the real sine (spec/41_oscillator.md R133, assumption log 1): the error
of the power series, of the grid and of `PI` on the first quarter, and the reduction to that quarter. -/

namespace Sys2Proof.Machine

/-! ## The power series -/

theorem sinSeries_zero (k : Nat) : sinSeries 0 k = 0 := by
  induction k with
  | zero => rfl
  | succ k ih => simp [sinSeries, ih]

theorem cast_sinSeries (t : ℚ) (k : Nat) :
    ((sinSeries t k : ℚ) : ℝ) =
      ∑ i ∈ Finset.range k, (-1) ^ i * ((t : ℝ) ^ (2 * i + 1) / (Nat.factorial (2 * i + 1) : ℝ)) := by
  induction k with
  | zero => simp [sinSeries]
  | succ k ih => rw [sinSeries, Finset.sum_range_succ, ← ih]; push_cast; ring

/-- On `[0,2]` the terms of the sine's series fall. -/
theorem antitone_sinTerm {t : ℝ} (h0 : 0 ≤ t) (h2 : t ≤ 2) :
    Antitone fun i : Nat => t ^ (2 * i + 1) / (Nat.factorial (2 * i + 1) : ℝ) := by
  refine antitone_nat_of_succ_le fun i => ?_
  have hfac : (Nat.factorial (2 * (i + 1) + 1) : ℝ) = (2 * i + 3) * (2 * i + 2) * Nat.factorial (2 * i + 1) := by
    rw [show 2 * (i + 1) + 1 = 2 * i + 1 + 1 + 1 by ring, Nat.factorial_succ, Nat.factorial_succ]
    push_cast; ring
  have hsq : t ^ 2 ≤ (2 * i + 3) * (2 * i + 2) := by
    have hi : (0 : ℝ) ≤ i := Nat.cast_nonneg i
    nlinarith
  rw [hfac, div_le_div_iff₀ (by positivity) (by positivity)]
  calc t ^ (2 * (i + 1) + 1) * (Nat.factorial (2 * i + 1) : ℝ)
      = t ^ 2 * (t ^ (2 * i + 1) * Nat.factorial (2 * i + 1)) := by ring
    _ ≤ (2 * i + 3) * (2 * i + 2) * (t ^ (2 * i + 1) * Nat.factorial (2 * i + 1)) := by gcongr
    _ = _ := by ring

/-- Fourteen terms of the alternating series miss the sine by at most the fifteenth. -/
theorem abs_sinSeries_sub_sin_le {t : ℚ} (h0 : 0 ≤ t) (h2 : t ≤ 2) :
    |((sinSeries t 14 : ℚ) : ℝ) - Real.sin t| ≤ 1 / 10 ^ 16 := by
  have h0' : (0 : ℝ) ≤ t := by exact_mod_cast h0
  have h2' : (t : ℝ) ≤ 2 := by exact_mod_cast h2
  have hanti := antitone_sinTerm h0' h2'
  have hsum : Filter.Tendsto
      (fun k => ∑ i ∈ Finset.range k, (-1) ^ i * ((t : ℝ) ^ (2 * i + 1) / (Nat.factorial (2 * i + 1) : ℝ)))
      Filter.atTop (nhds (Real.sin t)) := by
    simpa only [mul_div_assoc] using (Real.hasSum_sin t).tendsto_sum_nat
  have hlow := hanti.alternating_series_le_tendsto hsum 7
  have hhigh := hanti.tendsto_le_alternating_series hsum 7
  have hterm : (t : ℝ) ^ 29 / (Nat.factorial 29 : ℝ) ≤ 1 / 10 ^ 16 :=
    calc (t : ℝ) ^ 29 / (Nat.factorial 29 : ℝ) ≤ 2 ^ 29 / (Nat.factorial 29 : ℝ) := by gcongr
      _ ≤ 1 / 10 ^ 16 := by norm_num [Nat.factorial]
  rw [Finset.sum_range_succ, ← cast_sinSeries] at hhigh
  rw [← cast_sinSeries] at hlow
  norm_num at hlow hhigh hterm ⊢
  rw [abs_le]
  constructor <;> linarith

/-! ## The first quarter -/

theorem abs_onGrid_sub_le (x : ℚ) : |((onGrid x : ℚ) : ℝ) - x| ≤ 1 / 10 ^ 16 := by
  have hg : (0 : ℚ) < grid := grid_pos
  have h : |onGrid x - x| ≤ 1 / grid := by
    rw [onGrid, div_sub' hg.ne', abs_div, abs_of_pos hg]
    gcongr
    rw [abs_le]
    constructor <;> linarith [Int.floor_le (x * grid), Int.lt_floor_add_one (x * grid)]
  have hcast : ((|onGrid x - x| : ℚ) : ℝ) ≤ (1 / 10 ^ 16 : ℚ) := Rat.cast_le.mpr (h.trans (by norm_num [grid]))
  push_cast at hcast
  exact hcast

/-- Clipping to `[0,1]` brings a value no farther from a point of `[0,1]`. -/
theorem abs_clip_sub_le {x y : ℝ} (h0 : 0 ≤ y) (h1 : y ≤ 1) : |max 0 (min 1 x) - y| ≤ |x - y| := by
  rcases le_total x 0 with hx | hx
  · rw [min_eq_right (hx.trans zero_le_one), max_eq_left hx, abs_of_nonpos, abs_of_nonpos] <;> linarith
  · rw [max_eq_right (le_min zero_le_one hx)]
    rcases le_total x 1 with hx1 | hx1
    · rw [min_eq_right hx1]
    · rw [min_eq_left hx1, abs_of_nonneg, abs_of_nonneg] <;> linarith

theorem piValue_mul_mem {r : ℚ} (h0 : 0 ≤ r) (h1 : r ≤ 1) : 0 ≤ piValue / 2 * r ∧ piValue / 2 * r ≤ 2 := by
  rw [piValue]
  constructor <;> linarith

/-- The argument of the series and the true angle have nearly the same sine. -/
theorem abs_sin_piValue_mul_sub_le {r : ℚ} (h0 : 0 ≤ r) (h1 : r ≤ 1) :
    |Real.sin ((piValue / 2 * r : ℚ) : ℝ) - Real.sin (Real.pi / 2 * r)| ≤ 1 / 10 ^ 16 := by
  have h0' : (0 : ℝ) ≤ r := by exact_mod_cast h0
  have h1' : (r : ℝ) ≤ 1 := by exact_mod_cast h1
  calc _ ≤ |((piValue / 2 * r : ℚ) : ℝ) - Real.pi / 2 * r| := Real.abs_sin_sub_sin_le _ _
    _ = |((piValue : ℚ) : ℝ) - Real.pi| * (r / 2) := by
        rw [← abs_of_nonneg (by positivity : (0 : ℝ) ≤ r / 2), ← abs_mul]
        congr 1; push_cast; ring
    _ ≤ 1 / 10 ^ 20 * 1 := by
        gcongr
        · exact abs_piValue_sub_pi_le
        · linarith
    _ ≤ 1 / 10 ^ 16 := by norm_num

theorem abs_quarterSine_sub_le {r : ℚ} (h0 : 0 ≤ r) (h1 : r ≤ 1) :
    |((quarterSine r : ℚ) : ℝ) - Real.sin (Real.pi / 2 * r)| ≤ 1 / 10 ^ 15 := by
  rw [quarterSine]
  split_ifs with hone hthird
  · rw [hone]; norm_num
  · rw [show r = 1 / 3 by linarith]
    push_cast
    rw [show Real.pi / 2 * (1 / 3) = Real.pi / 6 by ring, Real.sin_pi_div_six]; norm_num
  · have hr0 : (0 : ℝ) ≤ r := by exact_mod_cast h0
    have hr1 : (r : ℝ) ≤ 1 := by exact_mod_cast h1
    have hsin : 0 ≤ Real.sin (Real.pi / 2 * r) :=
      Real.sin_nonneg_of_nonneg_of_le_pi (by positivity) (by nlinarith [Real.pi_pos])
    obtain ⟨ht0, ht2⟩ := piValue_mul_mem h0 h1
    have hgrid := abs_onGrid_sub_le (sinSeries (piValue / 2 * r) 14)
    have hseries := abs_sinSeries_sub_sin_le ht0 ht2
    have hangle := abs_sin_piValue_mul_sub_le h0 h1
    rw [Rat.cast_max, Rat.cast_min, Rat.cast_zero, Rat.cast_one]
    refine (abs_clip_sub_le hsin (Real.sin_le_one _)).trans ?_
    rw [abs_le] at hgrid hseries hangle ⊢
    constructor <;> linarith

/-! ## The whole period -/

/-- `SIN2PI` is, up to its sign, the sine of a part `r` of a quarter turn, and so is the real sine. -/
theorem sin2pi_eq_quarterSine (p : ℚ) : ∃ r : ℚ, 0 ≤ r ∧ r ≤ 1 ∧
    (sin2pi p = quarterSine r ∧ Real.sin (2 * Real.pi * p) = Real.sin (Real.pi / 2 * r) ∨
      sin2pi p = -quarterSine r ∧ Real.sin (2 * Real.pi * p) = -Real.sin (Real.pi / 2 * r)) := by
  have hq0 : 0 ≤ 4 * (p - ⌊p⌋) := by linarith [Int.floor_le p]
  have hq4 : 4 * (p - ⌊p⌋) < 4 := by linarith [Int.lt_floor_add_one p]
  have hsin : Real.sin (2 * Real.pi * p) = Real.sin (Real.pi / 2 * ((4 * (p - ⌊p⌋) : ℚ) : ℝ)) := by
    rw [← Real.sin_sub_int_mul_two_pi _ ⌊p⌋]
    congr 1; push_cast; ring
  rw [hsin, sin2pi]
  generalize 4 * (p - ⌊p⌋) = q at hq0 hq4
  split_ifs with h1 h2 h3
  · exact ⟨q, hq0, h1, .inl ⟨rfl, rfl⟩⟩
  · refine ⟨2 - q, by linarith, by linarith, .inl ⟨rfl, ?_⟩⟩
    rw [← Real.sin_pi_sub]
    congr 1; push_cast; ring
  · refine ⟨q - 2, by linarith, by linarith, .inr ⟨rfl, ?_⟩⟩
    rw [← Real.sin_sub_pi, ← Real.sin_sub_two_pi]
    congr 1; push_cast; ring
  · refine ⟨4 - q, by linarith, by linarith, .inr ⟨rfl, ?_⟩⟩
    rw [← Real.sin_neg, ← Real.sin_sub_two_pi]
    congr 1; push_cast; ring

theorem abs_sin2pi_le_one (p : ℚ) : |sin2pi p| ≤ 1 := by
  obtain ⟨r, -, -, ⟨h, -⟩ | ⟨h, -⟩⟩ := sin2pi_eq_quarterSine p <;> obtain ⟨hlow, hhigh⟩ := quarterSine_mem r
  · rw [h, abs_of_nonneg hlow]; exact hhigh
  · rw [h, abs_neg, abs_of_nonneg hlow]; exact hhigh

/-- Settles O19: the quarter's error bound, at the quarter-turn that both sines reduce to. -/
theorem sineIsNearIdeal : Obligations.SineIsNearIdeal := by
  intro p
  rw [engine_sin2pi]
  obtain ⟨r, h0, h1, ⟨h, hsin⟩ | ⟨h, hsin⟩⟩ := sin2pi_eq_quarterSine p
  · rw [h, hsin]; exact abs_quarterSine_sub_le h0 h1
  · rw [h, hsin, Rat.cast_neg, neg_sub_neg, abs_sub_comm]; exact abs_quarterSine_sub_le h0 h1

end Sys2Proof.Machine
end

section
/-! PROOF. O12: the machine's configuration and the ideal one are legal, a legal configuration is admissible, and what
U1 alone gives (spec/93_implementation_defined.md section 2). -/

namespace Sys2Proof.Machine

/-! ## What the default configuration has over every ordered field -/

section Exact

variable {K : Type} [Field K] [LinearOrder K] [IsStrictOrderedRing K] [FloorRing K]

theorem Params.reset_ok {N : NumOps K} (hN : N.Exact) : (Params.reset N).Ok := by
  have hzero : UnitOk (N.ofRat 0) := by simp [UnitOk, hN.ofRat]
  have hone : UnitOk (N.ofRat 1) := by simp [UnitOk, hN.ofRat]
  have htime : 0 ≤ N.ofRat 0 ∧ N.ofRat 0 ≤ 2 := by simp [hN.ofRat]
  exact {
    adsr := ⟨htime, htime, hone, hzero⟩
    fAdsr := ⟨htime, htime, hone, hzero⟩
    cutoff := hone
    detune := hzero
    amplitude := hone
    lfoFreq := by norm_num [Params.reset, hN.ofRat]
    bpm := by norm_num [Params.reset, hN.ofRat] }

/-- Truncation keeps a scaled level within the scale (U1 item 7). -/
theorem abs_truncate_mul_le {y : K} (hy : |y| ≤ 1) (m : Nat) : |truncate (y * m)| ≤ m :=
  abs_truncate_le (by rw [abs_mul, Nat.abs_cast]; exact mul_le_of_le_one_left (Nat.cast_nonneg m) hy)

end Exact

/-! ## The machine's configuration -/

theorem quarterSine_zero : quarterSine 0 = 0 := by simp [quarterSine, sinSeries_zero, onGrid]

theorem quarterSine_one : quarterSine 1 = 1 := by simp [quarterSine]

theorem sin2pi_of_lt_one {p : ℚ} (h0 : 0 ≤ p) (h1 : p < 1) :
    sin2pi p =
      if 4 * p ≤ 1 then quarterSine (4 * p)
      else if 4 * p ≤ 2 then quarterSine (2 - 4 * p)
      else if 4 * p ≤ 3 then -quarterSine (4 * p - 2)
      else -quarterSine (4 - 4 * p) := by
  rw [sin2pi, Int.floor_eq_zero_iff.mpr ⟨h0, h1⟩, Int.cast_zero, sub_zero]

theorem engine_octave (m : Int) : engine.noteFreq (m + 12) = 2 * engine.noteFreq m := by
  have h : (((m + 12 : Int) : ℚ) - 57) / 12 = ((m : ℚ) - 57) / 12 + 1 := by push_cast; ring
  rw [engine_noteFreq, engine_noteFreq, h, pow2_add_one]; ring

theorem engine_noteFreq_nonneg (m : Int) : 0 ≤ engine.noteFreq m := by
  rw [engine_noteFreq]
  have h := two_zpow_floor_le_pow2 (((m : ℚ) - 57) / 12)
  have hpos : (0 : ℚ) < 2 ^ ⌊((m : ℚ) - 57) / 12⌋ := by positivity
  linarith

/-- A note is at most five octaves below the reference 57. -/
theorem five_le_engine_noteFreq (m : Nat) : 5 ≤ engine.noteFreq m := by
  have hfloor : -5 ≤ ⌊(((m : Int) : ℚ) - 57) / 12⌋ := by
    have h : (0 : ℚ) ≤ (m : Int) := by exact_mod_cast m.zero_le
    exact Int.le_floor.mpr (by push_cast at h ⊢; linarith)
  have hpow : (2 : ℚ) ^ (-5 : Int) ≤ 2 ^ ⌊(((m : Int) : ℚ) - 57) / 12⌋ := zpow_le_zpow_right₀ one_le_two hfloor
  rw [engine_noteFreq]
  have h := two_zpow_floor_le_pow2 ((((m : Int) : ℚ) - 57) / 12)
  rw [show (2 : ℚ) ^ (-5 : Int) = 1 / 32 by norm_num] at hpow
  linarith

theorem engine_legal : engine.Legal where
  exact := engine_exact
  rate_large := by decide
  sin_zero := by norm_num [sin2pi_of_lt_one, quarterSine_zero]
  sin_quarter := by norm_num [sin2pi_of_lt_one, quarterSine_one]
  sin_half := by norm_num [sin2pi_of_lt_one, quarterSine_zero]
  sin_three_quarters := by norm_num [sin2pi_of_lt_one, quarterSine_one]
  sin_bound := abs_sin2pi_le_one
  pow2_zero := pow2_zero
  octave m _ := by
    rw [engine_octave, sub_self, abs_zero]
    have h := engine_noteFreq_nonneg m
    positivity
  freq_floor m _ := five_le_engine_noteFreq m
  sqrt_one := by simpa using sqrt_sq 1
  sqrt_four := by simpa using sqrt_sq 2
  one_le_sqrt _ := one_le_sqrt
  pi_pos := by norm_num [piValue]
  target_level _ _ _ h0 h1 := ⟨h0, h1⟩
  quant_bound _ hy := abs_truncate_mul_le hy _
  full_scale_le := le_rfl
  reset_params := Params.reset_ok engine_exact

/-! ## The ideal configuration -/

theorem idealEngine_sin2pi (p : ℝ) : idealEngine.num.sin2pi p = Real.sin (2 * Real.pi * p) := rfl

theorem idealEngine_noteFreq (m : Int) : idealEngine.noteFreq m = 440 * (2 : ℝ) ^ (((m : ℝ) - 57) / 12) := by
  rw [noteFreq_eq idealEngine_exact]; norm_num [idealEngine, defaultConfig, idealNum, exactNum]

theorem idealEngine_octave (m : Int) : idealEngine.noteFreq (m + 12) = 2 * idealEngine.noteFreq m := by
  have h : (((m + 12 : Int) : ℝ) - 57) / 12 = ((m : ℝ) - 57) / 12 + 1 := by push_cast; ring
  rw [idealEngine_noteFreq, idealEngine_noteFreq, h, Real.rpow_add_one two_ne_zero]; ring

theorem five_le_idealEngine_noteFreq (m : Nat) : 5 ≤ idealEngine.noteFreq m := by
  have hexp : (-5 : ℝ) ≤ (((m : Int) : ℝ) - 57) / 12 := by
    have h : (0 : ℝ) ≤ (m : Int) := by exact_mod_cast m.zero_le
    linarith
  have hpow := Real.rpow_le_rpow_of_exponent_le one_le_two hexp
  have h5 : (2 : ℝ) ^ (-5 : ℝ) = 1 / 32 := by
    rw [Real.rpow_neg zero_le_two]; norm_num
  rw [idealEngine_noteFreq]
  linarith

theorem idealEngine_legal : idealEngine.Legal where
  exact := idealEngine_exact
  rate_large := by decide
  sin_zero := by simp [idealEngine_sin2pi]
  sin_quarter := by
    rw [idealEngine_sin2pi, show 2 * Real.pi * (1 / 4) = Real.pi / 2 by ring, Real.sin_pi_div_two]
  sin_half := by
    rw [idealEngine_sin2pi, show 2 * Real.pi * (1 / 2) = Real.pi by ring, Real.sin_pi]
  sin_three_quarters := by
    rw [idealEngine_sin2pi, show 2 * Real.pi * (3 / 4) = Real.pi / 2 + Real.pi by ring, Real.sin_add_pi,
      Real.sin_pi_div_two]
  sin_bound _ := Real.abs_sin_le_one _
  pow2_zero := Real.rpow_zero 2
  octave m hm := by
    rw [idealEngine_octave, sub_self, abs_zero]
    have h := five_le_idealEngine_noteFreq m
    positivity
  freq_floor m _ := five_le_idealEngine_noteFreq m
  sqrt_one := Real.sqrt_one
  sqrt_four := by
    rw [show (4 : ℝ) = 2 ^ 2 by norm_num]; exact Real.sqrt_sq zero_le_two
  one_le_sqrt _ hm := Real.one_le_sqrt.mpr (by exact_mod_cast hm)
  pi_pos := Real.pi_pos
  target_level _ _ _ h0 h1 := ⟨h0, h1⟩
  quant_bound _ hy := abs_truncate_mul_le hy _
  full_scale_le := le_rfl
  reset_params := Params.reset_ok idealEngine_exact

/-! ## Legal configurations are admissible -/

theorem admissible_of_legal {K : Type} [Field K] [LinearOrder K] [IsStrictOrderedRing K] [FloorRing K] {n : Nat}
    {c : Config K n} (h : c.Legal) : c.Admissible := by
  have hN := h.exact
  exact {
    lt_exact := fun p q _ _ => by simp [hN.lt, hN.ofRat]
    le_exact := fun p q _ _ => by simp [hN.le, hN.ofRat]
    eq_exact := fun p q _ _ => by simp [hN.eq, hN.ofRat]
    sin_zero := by simpa [hN.ofRat] using h.sin_zero
    sin_quarter := by simpa [hN.ofRat] using h.sin_quarter
    sin_half := by simpa [hN.ofRat] using h.sin_half
    sin_three_quarters := by simpa [hN.ofRat] using h.sin_three_quarters
    sin_bound := by simpa [hN.ofRat, hN.le, hN.abs] using h.sin_bound
    pow2_zero := by simpa [hN.ofRat] using h.pow2_zero
    octave := fun m hm => by
      simpa [hN.ofRat, hN.le, hN.abs, hN.sub, hN.mul, div_eq_inv_mul] using h.octave m hm
    sqrt_one := by simpa [hN.ofRat] using h.sqrt_one
    sqrt_four := by simpa [hN.ofRat] using h.sqrt_four
    one_le_sqrt := fun m hm => by simpa [hN.ofRat, hN.le] using h.one_le_sqrt m hm
    frac_range := fun x => by
      simpa [frac_eq_fract hN, hN.ofRat, hN.le, hN.lt] using And.intro (Int.fract_nonneg x) (Int.fract_lt_one x)
    clamp_range := fun x lo hi hle => by
      have hle' : lo ≤ hi := by simpa [hN.le] using hle
      simpa [hN.le] using And.intro (le_clamp hN x hle') (clamp_le hN x hle')
    trunc_range := fun y hy => by
      have hy' : |y| ≤ 1 := by simpa [hN.le, hN.abs, hN.ofRat] using hy
      simpa [hN.trunc, hN.mul, hN.ofRat] using abs_truncate_mul_le hy' 32767
    add_mono := fun x y z hxy => by simpa [hN.le, hN.add] using hxy
    mul_mono := fun x y z hxy hz => by
      have hxy' : x ≤ y := by simpa [hN.le] using hxy
      have hz' : 0 ≤ z := by simpa [hN.le, hN.ofRat] using hz
      simpa [hN.le, hN.mul] using
        And.intro (mul_le_mul_of_nonneg_right hxy' hz') (mul_le_mul_of_nonneg_left hxy' hz') }

/-! ## What U1 alone gives -/

section Admissible

variable {R : Type} {n : Nat} {c : Config R n}

/-- A clamp between two of the numbers of U1 item 1 is between them. -/
theorem clamp_between (h : c.Admissible) (x : R) {p q : ℚ} (hp : Representable c.rate p) (hq : Representable c.rate q)
    (hpq : p ≤ q) :
    c.num.le (c.num.ofRat p) (clamp c.num x (c.num.ofRat p) (c.num.ofRat q)) = true ∧
      c.num.le (clamp c.num x (c.num.ofRat p) (c.num.ofRat q)) (c.num.ofRat q) = true :=
  h.clamp_range _ _ _ (by rw [h.le_exact p q hp hq]; exact decide_eq_true hpq)

theorem representable_zero (rate : Nat) : Representable rate 0 := .inl (by simp)

theorem representable_one (rate : Nat) : Representable rate 1 := .inl (by simp)

theorem representable_neg_one (rate : Nat) : Representable rate (-1) := .inl (by simp)

theorem representable_two (rate : Nat) : Representable rate 2 := .inl (by simp)

theorem setTime_range (h : c.Admissible) (v : Half) :
    c.num.le (c.num.ofRat 0) (setTime c.num v) = true ∧ c.num.le (setTime c.num v) (c.num.ofRat 2) = true :=
  clamp_between h _ (representable_zero _) (representable_two _) zero_le_two

theorem setUnit_range (h : c.Admissible) (v : Half) :
    c.num.le (c.num.ofRat 0) (setUnit c.num v) = true ∧ c.num.le (setUnit c.num v) (c.num.ofRat 1) = true :=
  clamp_between h _ (representable_zero _) (representable_one _) zero_le_one

theorem resolveCutoff_range (h : c.Admissible) (s : Synth R n) :
    c.num.le (c.num.ofRat 0) (resolveCutoff c s) = true ∧ c.num.le (resolveCutoff c s) (c.num.ofRat 1) = true :=
  clamp_between h _ (representable_zero _) (representable_one _) zero_le_one

theorem mixed_range (h : c.Admissible) (count : Nat) (sum : R) (s : Synth R n) :
    c.num.le (c.num.ofRat (-1)) (mixed c count sum s) = true ∧ c.num.le (mixed c count sum s) (c.num.ofRat 1) = true :=
  clamp_between h _ (representable_neg_one _) (representable_one _) (by norm_num)

end Admissible

/-- Settles O12: the two configurations field by field, each item of U1 from exact arithmetic, and the ranges from items
1, 5 and 6. -/
theorem engineConfigurationIsLegal : Obligations.EngineConfigurationIsLegal := by
  refine ⟨engine_legal, idealEngine_legal, fun K _ _ _ _ n c h => admissible_of_legal h, fun R n c h => ⟨?_, ?_, ?_⟩⟩
  · exact fun phase f => h.frac_range _
  · exact fun v => ⟨(setTime_range h v).1, (setTime_range h v).2, (setUnit_range h v).1, (setUnit_range h v).2⟩
  · exact fun s count sum => ⟨(resolveCutoff_range h s).1, (resolveCutoff_range h s).2,
      (mixed_range h count sum s).1, (mixed_range h count sum s).2⟩

end Sys2Proof.Machine
end

section
/-! PROOF. What every command does to the state, whatever the configuration: the machine is the engine of R9 at its own
record, the CC and SET commands are each one register write, and O58: who writes `PRESET_ERR` and the staging
(spec/10_state.md R29, R37). -/

namespace Sys2Proof.Machine

/-! ## The machine at its own configuration -/

theorem exec_eq_command (i : Instr) (s : State) : exec i s = .next ⟨command engine i s.toSynth⟩ := by
  cases i <;> rfl

theorem step_eq_stepWith (s : State) : step s = .next ⟨stepWith engine s.toSynth⟩ := by
  unfold step stepWith
  cases s.rst with
  | true => rfl
  | false =>
    cases s.smpOut with
    | some y => rfl
    | none =>
      cases fetch s.toSynth with
      | none => rfl
      | some ws => exact exec_eq_command _ _

variable {R : Type} {n : Nat}

/-! ## The register a command writes -/

/-- The register write a CC or SET command makes (R260 to R289); no other command makes one. -/
def paramWriteOf (N : NumOps R) : Instr → Option (ParamWrite R)
  | .ccAttack v => some (.attack (ccDouble N v))
  | .ccDecay v => some (.decay (ccDouble N v))
  | .ccSustain v => some (.sustain (ccUnit N v))
  | .ccRelease v => some (.release (ccUnit N v))
  | .ccCutoff v => some (.cutoff (ccUnit N v))
  | .ccWaveA v => some (.waveA (ccWave v))
  | .ccWaveB v => some (.waveB (ccWave v))
  | .ccWaveC v => some (.waveC (ccWave v))
  | .ccDetune v => some (.detune (ccUnit N v))
  | .ccAmplitude v => some (.amplitude (ccUnit N v))
  | .setAttack v => some (.attack (setTime N v))
  | .setDecay v => some (.decay (setTime N v))
  | .setSustain v => some (.sustain (setUnit N v))
  | .setRelease v => some (.release (setUnit N v))
  | .setFAttack v => some (.fAttack (setTime N v))
  | .setFDecay v => some (.fDecay (setTime N v))
  | .setFSustain v => some (.fSustain (setUnit N v))
  | .setFRelease v => some (.fRelease (setUnit N v))
  | .setCutoff v => some (.cutoff (setUnit N v))
  | .setFEnvEn v => some (.fEnvEn (setBool v))
  | .setWaveA v => some (.waveA (setWave v))
  | .setWaveB v => some (.waveB (setWave v))
  | .setWaveC v => some (.waveC (setWave v))
  | .setDetune v => some (.detune (setUnit N v))
  | .setAmplitude v => some (.amplitude (setUnit N v))
  | .setLfoTarget v => some (.lfoTarget (setTarget v))
  | .setLfoWave v => some (.lfoWave (setWave v))
  | .setLfoFreq v => some (.lfoFreq (uq88 N v))
  | .setArpEn v => some (.arpEn (setBool v))
  | .setBpm v => some (.bpm (uq124 N v))
  | .nop | .noteOn _ _ | .noteOff _ | .presetField _ _ | .presetCommit | .presetAbort | .tick => none

/-- A command that makes a register write does nothing else. -/
theorem command_eq_writeParam [NeZero n] (c : Config R n) {i : Instr} {w : ParamWrite R} (s : Synth R n)
    (h : paramWriteOf c.num i = some w) : command c i s = writeParam c w s := by
  cases i <;> cases h <;> rfl

/-- What a command is: NOP, a register write, or one of the six that are not. -/
theorem command_cases (N : NumOps R) (i : Instr) :
    i = .nop ∨ (∃ w, paramWriteOf N i = some w) ∨ (∃ a v, i = .noteOn a v) ∨ (∃ a, i = .noteOff a) ∨ i = .tick ∨
      (∃ a v, i = .presetField a v) ∨ i = .presetCommit ∨ i = .presetAbort := by
  cases i <;> simp [paramWriteOf]

/-! ## The staging and its flag -/

/-- NOTE_ON writes the pool and the filter's envelope, and nothing else (R148, R156). -/
theorem noteOn_frame (c : Config R n) (a : BitVec 8) (v : Half) (s : Synth R n) :
    noteOn c a v s = { s with pool := (noteOn c a v s).pool, fenv := (noteOn c a v s).fenv } := by
  obtain ⟨-, h⟩ | ⟨-, -, h⟩ | ⟨i, -, -, -, h⟩ := noteOn_cases c a v s
  · rw [h]
  · rw [h, reclaim_frame]; rfl
  · rw [h, assignSlot_eq, reclaim_frame]; rfl

/-- NOTE_OFF writes the pool and the filter's envelope, and nothing else (R153, R156). -/
theorem noteOff_frame (a : BitVec 8) (s : Synth R n) :
    noteOff a s = { s with pool := (noteOff a s).pool, fenv := (noteOff a s).fenv } := by
  obtain ⟨-, h⟩ | ⟨-, -, h⟩ | ⟨i, -, -, -, h⟩ := noteOff_cases a s
  · rw [h]
  · rw [h]
  · rw [h, releaseSlot_eq]; rfl

/-- Two states agree in the staged values, their valid bits and the flag. -/
structure SameStaging (s t : Synth R n) : Prop where
  stg : t.stg = s.stg
  stgv : t.stgv = s.stgv
  presetErr : t.presetErr = s.presetErr

theorem sameStaging_writeParam [NeZero n] (c : Config R n) (w : ParamWrite R) (s : Synth R n) :
    SameStaging s (writeParam c w s) := by
  rw [writeParam_frame]; exact ⟨rfl, rfl, rfl⟩

theorem sameStaging_noteOn (c : Config R n) (a : BitVec 8) (v : Half) (s : Synth R n) :
    SameStaging s (noteOn c a v s) := by
  rw [noteOn_frame]; exact ⟨rfl, rfl, rfl⟩

theorem sameStaging_noteOff (a : BitVec 8) (s : Synth R n) : SameStaging s (noteOff a s) := by
  rw [noteOff_frame]; exact ⟨rfl, rfl, rfl⟩

theorem sameStaging_tick [NeZero n] (c : Config R n) (s : Synth R n) : SameStaging s (tick c s) := by
  rw [tick_frame]; exact ⟨rfl, rfl, rfl⟩

/-- A command that is no preset command leaves the staging and the flag (R29, R37). -/
theorem sameStaging_command [NeZero n] (c : Config R n) (i : Instr) (s : Synth R n)
    (hfield : ∀ a v, i ≠ .presetField a v) (hcommit : i ≠ .presetCommit) (habort : i ≠ .presetAbort) :
    SameStaging s (command c i s) := by
  obtain rfl | ⟨w, hw⟩ | ⟨a, v, rfl⟩ | ⟨a, rfl⟩ | rfl | ⟨a, v, rfl⟩ | rfl | rfl := command_cases c.num i
  · exact ⟨rfl, rfl, rfl⟩
  · rw [command_eq_writeParam c s hw]; exact sameStaging_writeParam c w s
  · exact sameStaging_noteOn c a v s
  · exact sameStaging_noteOff a s
  · exact sameStaging_tick c s
  · exact absurd rfl (hfield a v)
  · exact absurd rfl hcommit
  · exact absurd rfl habort

theorem presetField_presetErr (a : BitVec 8) (v : Half) (s : Synth R n) :
    (presetField a v s).presetErr = s.presetErr := by
  unfold presetField; split <;> rfl

theorem presetCommit_stg (c : Config R n) (s : Synth R n) : (presetCommit c s).stg = s.stg := by
  unfold presetCommit; split <;> rfl

/-- Settles O58: the preset commands one by one; every other command leaves the staging and the flag. -/
theorem onlyPresetCommandsWriteTheFlag : Obligations.OnlyPresetCommandsWriteTheFlag := by
  intro i s t ht
  rw [exec_eq_command] at ht
  cases ht
  by_cases hfield : ∃ a v, i = .presetField a v
  · obtain ⟨a, v, rfl⟩ := hfield
    exact ⟨fun _ _ => ⟨presetField_presetErr a v _, fun h => absurd rfl (h a v)⟩, fun h => absurd rfl (h a v)⟩
  by_cases hcommit : i = .presetCommit
  · subst hcommit; exact ⟨fun h => absurd rfl h, fun _ => presetCommit_stg _ _⟩
  by_cases habort : i = .presetAbort
  · subst habort; exact ⟨fun _ h => absurd rfl h, fun _ => rfl⟩
  · have h := sameStaging_command engine i s.toSynth (fun a v hi => hfield ⟨a, v, hi⟩) hcommit habort
    exact ⟨fun _ _ => ⟨h.presetErr, fun _ => h.stgv⟩, fun _ => h.stg⟩

end Sys2Proof.Machine
end

section
/-! PROOF. The ranges of R40 under each operation on a value: the envelope generator (spec/40_envelope.md R121, R122),
the waveforms and the LFO's multiplier (spec/41_oscillator.md R138, spec/45_lfo.md R197), the filter
(spec/44_filter.md R182, R188) and the operands of a register write (spec/48_parameters.md R252). -/

namespace Sys2Proof.Machine

variable {K : Type} [Field K] [LinearOrder K] {n : Nat} {c : Config K n}

/-! ## Levels -/

theorem PhaseOk.unitOk {x : K} (h : PhaseOk x) : UnitOk x := ⟨h.1, h.2.le⟩

section Ordered

variable [IsStrictOrderedRing K]

theorem UnitOk.signalOk {x : K} (h : UnitOk x) : SignalOk x := ⟨by linarith [h.1], h.2⟩

/-- A signal scaled by a level is a signal. -/
theorem SignalOk.mul_unit {m x : K} (hm : SignalOk m) (hx : UnitOk x) : SignalOk (m * x) := by
  refine abs_le.mp ?_
  rw [abs_mul]
  exact mul_le_one₀ (abs_le.mpr hm) (abs_nonneg x) (abs_le.mpr hx.signalOk)

end Ordered

/-! ## Register writes (R254) -/

/-- The value of a register write is in the range of its register (R30). -/
def ParamWrite.Ok : ParamWrite K → Prop
  | .attack x | .decay x | .fAttack x | .fDecay x => 0 ≤ x ∧ x ≤ 2
  | .sustain x | .release x | .fSustain x | .fRelease x | .cutoff x | .detune x | .amplitude x => UnitOk x
  | .lfoFreq x => 0 ≤ x ∧ x ≤ 65535 / 256
  | .bpm x => 0 ≤ x ∧ x ≤ 65535 / 16
  | .fEnvEn _ | .waveA _ | .waveB _ | .waveC _ | .lfoTarget _ | .lfoWave _ | .arpEn _ => True

/-- A write of a value in its range keeps every register in its range. -/
theorem Params.Ok.put {p : Params K} (h : p.Ok) {w : ParamWrite K} (hw : w.Ok) : (p.put w).Ok := by
  cases w with
  | attack => exact { h with adsr := { h.adsr with a := hw } }
  | decay => exact { h with adsr := { h.adsr with d := hw } }
  | sustain => exact { h with adsr := { h.adsr with s := hw } }
  | release => exact { h with adsr := { h.adsr with r := hw } }
  | fAttack => exact { h with fAdsr := { h.fAdsr with a := hw } }
  | fDecay => exact { h with fAdsr := { h.fAdsr with d := hw } }
  | fSustain => exact { h with fAdsr := { h.fAdsr with s := hw } }
  | fRelease => exact { h with fAdsr := { h.fAdsr with r := hw } }
  | cutoff => exact { h with cutoff := hw }
  | detune => exact { h with detune := hw }
  | amplitude => exact { h with amplitude := hw }
  | lfoFreq => exact { h with lfoFreq := hw }
  | bpm => exact { h with bpm := hw }
  | _ => exact { h with }

/-! ## Envelopes (R121, R122) -/

theorem envRelease_ok {e : Envelope K} (he : e.Ok) : (envRelease e).Ok := by
  rw [envRelease_eq]
  split
  · exact he
  · exact ⟨he.out, nofun⟩

variable [FloorRing K]

theorem phaseOk_ofRat_zero {N : NumOps K} (hN : N.Exact) : PhaseOk (N.ofRat 0) := by simp [PhaseOk, hN.ofRat]

theorem Envelope.idle_ok : (⟨.idle, 0⟩ : Envelope K).Ok := ⟨⟨le_rfl, zero_le_one⟩, fun _ => rfl⟩

theorem Envelope.reset_ok {N : NumOps K} (hN : N.Exact) : (Envelope.reset N).Ok := by
  rw [Envelope.reset, hN.ofRat, Rat.cast_zero]; exact Envelope.idle_ok

/-- The Decay target is a level (R114, D7). -/
theorem decayTarget_ok (hc : c.Legal) {p : Adsr K} (hp : p.Ok) : UnitOk (decayTarget c p) := by
  rw [decayTarget_eq hc.exact]
  split
  · exact hp.s
  · exact hc.target_level _ _ _ hp.r.1 hp.r.2

theorem decayNext_ne_idle (hN : c.num.Exact) (p : Adsr K) : decayNext c p ≠ .idle := by
  rw [decayNext_eq hN]; split <;> nofun

variable [IsStrictOrderedRing K]

theorem phaseStep_ok (hN : c.num.Exact) (phase f : K) : PhaseOk (phaseStep c phase f) := by
  rw [phaseStep_eq hN]; exact ⟨Int.fract_nonneg _, Int.fract_lt_one _⟩

theorem envTrigger_ok (hN : c.num.Exact) (e : Envelope K) : (envTrigger c e).Ok := by
  rw [envTrigger_eq hN]; exact ⟨by norm_num [UnitOk], nofun⟩

theorem armAttack_ok (hN : c.num.Exact) {out a : K} (h : UnitOk out) : (armAttack c ⟨.attack, out⟩ a).Ok := by
  have hone : (⟨.decay, 1⟩ : Envelope K).Ok := ⟨⟨zero_le_one, le_rfl⟩, nofun⟩
  rw [armAttack_eq hN]
  split_ifs with ha h1
  · exact hone
  · have hrise : 0 ≤ 1 / (a * c.rate) := by positivity
    exact ⟨⟨add_nonneg h.1 hrise, (not_le.mp h1).le⟩, nofun⟩
  · exact hone

theorem armDecay_ok (hc : c.Legal) {out : K} {p : Adsr K} (h : UnitOk out) (hp : p.Ok) :
    (armDecay c ⟨.decay, out⟩ p).Ok := by
  have ht := decayTarget_ok hc hp
  have hnext : (⟨decayNext c p, decayTarget c p⟩ : Envelope K).Ok :=
    ⟨ht, fun hi => absurd hi (decayNext_ne_idle hc.exact p)⟩
  rw [armDecay_eq hc.exact]
  split_ifs with hd h1
  · exact hnext
  · have hfall : 0 ≤ (1 - decayTarget c p) / (p.d * c.rate) :=
      div_nonneg (sub_nonneg.mpr ht.2) (by positivity)
    exact ⟨⟨ht.1.trans (not_le.mp h1).le, (sub_le_self _ hfall).trans h.2⟩, nofun⟩
  · exact hnext

theorem armRelease_ok (hN : c.num.Exact) {out r : K} (h : UnitOk out) : (armRelease c ⟨.release, out⟩ r).Ok := by
  rw [armRelease_eq hN]
  split_ifs with hr h1
  · exact Envelope.idle_ok
  · have hfall : 0 ≤ out / (r * c.rate) := div_nonneg h.1 (by positivity)
    exact ⟨⟨by linarith, (sub_le_self _ hfall).trans h.2⟩, nofun⟩
  · exact Envelope.idle_ok

theorem armSustain_ok (hN : c.num.Exact) {out : K} {p : Adsr K} (h : UnitOk out) (hp : p.Ok) :
    (armSustain c ⟨.sustain, out⟩ p).Ok := by
  rw [armSustain_eq hN]
  split
  · exact armRelease_ok hN h
  · exact ⟨hp.s, nofun⟩

/-- `env_advance` keeps the output in `[0,1]`, and 0 when Idle, in each of its five arms. -/
theorem envAdvance_ok (hc : c.Legal) {e : Envelope K} {p : Adsr K} (hp : p.Ok) (he : e.Ok) : (envAdvance c e p).Ok := by
  obtain ⟨state, out⟩ := e
  have hout : UnitOk out := he.out
  cases state with
  | idle => exact Envelope.reset_ok hc.exact
  | attack => exact armAttack_ok hc.exact hout
  | decay => exact armDecay_ok hc hout hp
  | sustain => exact armSustain_ok hc.exact hout hp
  | release => exact armRelease_ok hc.exact hout

/-! ## Waveforms and the LFO (R138, R197) -/

theorem wave_signalOk (hc : c.Legal) (w : Waveform) {p : K} (hp : PhaseOk p) : SignalOk (wave c.num w p) := by
  obtain ⟨h0, h1⟩ := hp
  cases w with
  | sine => exact abs_le.mp (hc.sin_bound p)
  | square => rw [wave_square hc.exact]; split <;> norm_num [SignalOk]
  | triangle =>
    have habs : |p - 1 / 2| ≤ 1 / 2 := abs_le.mpr ⟨by linarith, by linarith⟩
    rw [wave_triangle hc.exact]
    exact ⟨by linarith, by linarith [abs_nonneg (p - 1 / 2)]⟩
  | sawtooth => rw [wave_sawtooth hc.exact]; exact ⟨by linarith, by linarith⟩

theorem lfoMultiplier_signalOk (hc : c.Legal) (w : Waveform) {p : K} (hp : PhaseOk p) :
    SignalOk (lfoMultiplier c.num w p) := by
  have hrect : ∀ w, SignalOk (c.num.abs (wave c.num w p)) := fun w => by
    rw [hc.exact.abs]
    exact UnitOk.signalOk ⟨abs_nonneg _, abs_le.mpr (wave_signalOk hc w hp)⟩
  cases w with
  | sine => exact hrect .sine
  | triangle => exact hrect .triangle
  | square => exact wave_signalOk hc .square hp
  | sawtooth => exact wave_signalOk hc .sawtooth hp

/-! ## The filter (R182, R188) -/

theorem envelopeCutoff_ok (hN : c.num.Exact) (cutoff fe : K) : UnitOk (envelopeCutoff c cutoff fe) := by
  rw [envelopeCutoff_eq hN]; exact ⟨le_max_left _ _, max_le zero_le_one (min_le_right _ _)⟩

theorem resolveCutoff_ok (hN : c.num.Exact) (s : Synth K n) : UnitOk (resolveCutoff c s) := by
  rw [resolveCutoff_eq hN]; exact ⟨le_max_left _ _, max_le zero_le_one (min_le_right _ _)⟩

theorem mixed_signalOk (hN : c.num.Exact) (count : Nat) (sum : K) (s : Synth K n) : SignalOk (mixed c count sum s) := by
  rw [mixed_eq hN]; exact ⟨le_max_left _ _, max_le (by norm_num) (min_le_right _ _)⟩

theorem omega_nonneg (hc : c.Legal) {x : K} (hx : 0 ≤ x) : 0 ≤ omega c x := by
  have hpi := hc.pi_pos.le
  rw [omega_eq hc.exact]; positivity

/-- The coefficient of a cutoff that is not negative is in `[0,1)` (R182). -/
theorem alpha_mem (hc : c.Legal) {x : K} (hx : 0 ≤ x) : 0 ≤ alpha c x ∧ alpha c x < 1 := by
  have h := omega_nonneg hc hx
  rw [alpha_eq hc.exact]
  exact ⟨by positivity, (div_lt_one (by positivity)).mpr (lt_add_one _)⟩

/-- The filter's output lies between its input and its memory (R188). -/
theorem filterOut_signalOk (hc : c.Legal) {x : K} {s : Synth K n} (hx : SignalOk x) (hprev : SignalOk s.flt.prevOut) :
    SignalOk (filterOut c x s) := by
  obtain ⟨h0, h1⟩ := alpha_mem hc (resolveCutoff_ok hc.exact s).1
  rw [filterOut_eq hc.exact]
  simpa using convex_Icc (-1 : K) 1 hx hprev h0 (sub_nonneg.mpr h1.le) (add_sub_cancel _ 1)

/-! ## Operands of a register write (R252, R253) -/

/-- Every operand form answers a value in the range of its register (R85 to R88, R252). -/
theorem paramWriteOf_ok {N : NumOps K} (hN : N.Exact) {i : Instr} {w : ParamWrite K} (h : paramWriteOf N i = some w) :
    w.Ok := by
  cases i with
  | ccAttack v | ccDecay v => cases h; exact ccDouble_mem hN v
  | ccSustain v | ccRelease v | ccCutoff v | ccDetune v | ccAmplitude v => cases h; exact ccUnit_mem hN v
  | setAttack v | setDecay v | setFAttack v | setFDecay v => cases h; exact setTime_mem hN v
  | setSustain v | setRelease v | setFSustain v | setFRelease v | setCutoff v | setDetune v | setAmplitude v =>
    cases h; exact setUnit_mem hN v
  | setLfoFreq v => cases h; exact uq88_mem hN v
  | setBpm v => cases h; exact uq124_mem hN v
  | nop | noteOn | noteOff | presetField | presetCommit | presetAbort | tick => cases h
  | _ => cases h; trivial

/-- The registers of an accepted import are in their ranges (R296). -/
theorem stagedParams_ok {N : NumOps K} (hN : N.Exact) {s : Synth K n} (h : s.params.Ok) : (stagedParams N s).Ok where
  adsr := ⟨setTime_mem hN _, setTime_mem hN _, setUnit_mem hN _, setUnit_mem hN _⟩
  fAdsr := ⟨setTime_mem hN _, setTime_mem hN _, setUnit_mem hN _, setUnit_mem hN _⟩
  cutoff := setUnit_mem hN _
  detune := setUnit_mem hN _
  amplitude := setUnit_mem hN _
  lfoFreq := h.lfoFreq
  bpm := h.bpm

end Sys2Proof.Machine
end

section
/-! PROOF. The sort leaves the assigned voices first, in ascending order of note (spec/42_voice_pool.md R159), and so
the order of the pool in arpeggio mode (R160). -/

namespace Sys2Proof.Machine

variable {R : Type} {n : Nat}

/-! ## The records in order -/

/-- Insertion into an ascending list keeps it ascending (R158, pass 1). -/
theorem pairwise_insertByNote (x : Voice R) {vs : List (Voice R)} (h : vs.Pairwise fun v w => v.note ≤ w.note) :
    (insertByNote x vs).Pairwise fun v w => v.note ≤ w.note := by
  induction vs with
  | nil => simp [insertByNote]
  | cons y ys ih =>
    obtain ⟨hy, hys⟩ := List.pairwise_cons.mp h
    simp only [insertByNote]
    split
    next hlt =>
      have hle : ∀ v ∈ y :: ys, x.note ≤ v.note := by
        simpa [hlt.le] using fun v hv => hlt.le.trans (hy v hv)
      exact List.pairwise_cons.mpr ⟨hle, h⟩
    next hge =>
      have hle : ∀ v ∈ insertByNote x ys, y.note ≤ v.note := fun v hv => by
        obtain rfl | hv := List.mem_cons.mp ((insertByNote_perm x ys).mem_iff.mp hv)
        · exact not_lt.mp hge
        · exact hy v hv
      exact List.pairwise_cons.mpr ⟨hle, ih hys⟩

theorem pairwise_sortPass (vs : List (Voice R)) : (sortPass vs).Pairwise fun v w => v.note ≤ w.note :=
  List.foldlRecOn vs _ List.Pairwise.nil fun _ h x _ => pairwise_insertByNote x h

/-- After the two passes, what stands before an assigned voice is assigned and of no greater note (R159). -/
theorem pairwise_sortedVoices (p : Pool R n) :
    (sortedVoices p).Pairwise fun v w => w.note ≠ -1 → v.note ≠ -1 ∧ v.note ≤ w.note := by
  have hasc := pairwise_sortPass p.toList
  refine List.pairwise_append.mpr ⟨?_, ?_, ?_⟩
  · refine (hasc.filter _).imp_of_mem fun hv _ hle _ => ⟨?_, hle⟩
    simpa using (List.mem_filter.mp hv).2
  · refine (hasc.filter _).imp_of_mem fun _ hw _ hne => absurd ?_ hne
    simpa using (List.mem_filter.mp hw).2
  · refine fun v _ w hw hne => absurd ?_ hne
    simpa using (List.mem_filter.mp hw).2

/-! ## The pool -/

theorem poolSort_ascending (p : Pool R n) {i j : Fin n} (hij : i < j) (hj : (poolSort p)[j].note ≠ -1) :
    (poolSort p)[i].note ≠ -1 ∧ (poolSort p)[i].note ≤ (poolSort p)[j].note := by
  have hlen : (sortedVoices p).length = n := length_sortedVoices p
  exact List.pairwise_iff_getElem.mp (pairwise_sortedVoices p) i j (i.isLt.trans_eq hlen.symm)
    (j.isLt.trans_eq hlen.symm) hij hj

/-- What holds of every record of the pool holds of every record after the sort. -/
theorem forall_poolSort {P : Voice R → Prop} {p : Pool R n} (h : ∀ i : Fin n, P p[i]) (i : Fin n) :
    P (poolSort p)[i] := by
  have hmem : (poolSort p)[i] ∈ p.toList :=
    (sortedVoices_perm p).mem_iff.mp (Vector.mem_toList_iff.mpr (Vector.getElem_mem i.isLt))
  obtain ⟨j, hj, heq⟩ := Vector.mem_iff_getElem.mp (Vector.mem_toList_iff.mp hmem)
  rw [← heq]
  exact h ⟨j, hj⟩

/-- The sort orders a pool in which the pressed voices are the assigned ones (R160). -/
theorem arpOrdered_poolSort {p : Pool R n} (h : ∀ i : Fin n, p[i].pressed = true ↔ p[i].note ≠ -1) :
    (poolSort p).ArpOrdered := by
  have hpressed := forall_poolSort (P := fun v => v.pressed = true ↔ v.note ≠ -1) h
  refine ⟨hpressed, fun i j hij hj => ?_⟩
  obtain ⟨hi, hle⟩ := poolSort_ascending p hij ((hpressed j).mp hj)
  exact ⟨(hpressed i).mpr hi, hle⟩

/-- The order reads the notes and the pressed flags only. -/
theorem Pool.ArpOrdered.congr {p q : Pool R n} (h : p.ArpOrdered) (hnote : ∀ i : Fin n, q[i].note = p[i].note)
    (hpressed : ∀ i : Fin n, q[i].pressed = p[i].pressed) : q.ArpOrdered := by
  simpa only [Pool.ArpOrdered, hnote, hpressed] using h

/-- A pool with nothing assigned is ordered. -/
theorem arpOrdered_of_unassigned {p : Pool R n} (h : ∀ i : Fin n, p[i].note = -1 ∧ p[i].pressed = false) :
    p.ArpOrdered := by
  refine ⟨fun i => ?_, fun i j _ hj => ?_⟩
  · simp only [h i]; decide
  · exact absurd hj (by simp only [h j]; decide)

end Sys2Proof.Machine
end

section
/-! PROOF. O13, O14 and O15: the invariant of spec/10_state.md R40 holds at reset, and every command and every step keep
it, for every legal configuration. What it asks of each voice on its own is `Voice.Legal`: each operation on a voice
keeps that, and each operation on the state keeps the invariant. -/

namespace Sys2Proof.Machine

variable {K : Type} [Field K] [LinearOrder K] {n : Nat} {c : Config K n} {s : Synth K n}

/-! ## One voice -/

/-- What the invariant asks of a voice on its own, with the effective detune `det` in the mode `arp`. -/
structure Voice.Legal (c : Config K n) (det : K) (arp : Bool) (v : Voice K) : Prop where
  ok : v.Ok
  tuned : v.note ≠ -1 → v.Tuned c det
  pressed : arp = true → (v.pressed = true ↔ v.note ≠ -1)

/-- Another envelope in its range changes nothing else the invariant asks. -/
theorem Voice.Legal.withEnv {det : K} {arp : Bool} {v : Voice K} (h : v.Legal c det arp) {e : Envelope K} (he : e.Ok) :
    ({ v with env := e } : Voice K).Legal c det arp :=
  ⟨{ h.ok with env := he }, h.tuned, h.pressed⟩

/-- A voice that lost its note is legal with any detune and in any mode. -/
theorem Voice.Ok.unassign {v : Voice K} (h : v.Ok) {x : K} (hx : x = 0 ∨ x = v.vel) {e : Envelope K} (he : e.Ok)
    (det : K) (arp : Bool) :
    ({ v with note := -1, pressed := false, vel := x, env := e } : Voice K).Legal c det arp where
  ok := { h with note := .inl rfl, vel := hx.elim .inl fun hv => hv ▸ h.vel, env := he }
  tuned hne := absurd rfl hne
  pressed _ := by simp

theorem releaseVoice_legal {det : K} {arp : Bool} {v : Voice K} (h : v.Legal c det arp) :
    (releaseVoice arp v).Legal c det arp := by
  have he := envRelease_ok h.ok.env
  unfold releaseVoice
  split
  · exact h.ok.unassign (.inr rfl) he det arp
  · exact h.withEnv he

/-! ## Writes of one part of the state -/

/-- What holds of every slot and of the voice written holds of every slot after the write. -/
theorem forall_poolSet {R : Type} {P : Voice R → Prop} {p : Pool R n} (h : ∀ i : Fin n, P p[i]) (i : Fin n)
    {v : Voice R} (hv : P v) (j : Fin n) : P (p.set i v)[j] := by
  rw [getElem_poolSet]; split
  · exact hv
  · exact h j

/-- A write that gives one slot another envelope. -/
theorem getElem_poolSet_withEnv {R : Type} (p : Pool R n) (i j : Fin n) (e : Envelope R) :
    (p.set i { p[i] with env := e })[j] = { p[j] with env := if i = j then e else p[j].env } := by
  rw [getElem_poolSet]; split
  next hij => rw [hij]
  next => rfl

theorem Inv.voiceLegal (h : Inv c s) (i : Fin n) : s.pool[i].Legal c (effectiveDetune s) s.params.arpEn :=
  ⟨h.voice i, h.tuned i, fun harp => (h.arpOrder harp).1 i⟩

/-- A pool of legal voices, in order in arpeggio mode, keeps the invariant. -/
theorem Inv.setPool (h : Inv c s) {p : Pool K n}
    (hv : ∀ i : Fin n, p[i].Legal c (effectiveDetune s) s.params.arpEn)
    (ho : s.params.arpEn = true → p.ArpOrdered) : Inv c (s.setPool p) :=
  { h with voice := fun i => (hv i).ok, tuned := fun i => (hv i).tuned, arpOrder := ho }

/-- The same for a pool with the notes and pressed flags it had. -/
theorem Inv.setPool_sameNotes (h : Inv c s) {p : Pool K n}
    (hv : ∀ i : Fin n, p[i].Legal c (effectiveDetune s) s.params.arpEn)
    (hnote : ∀ i : Fin n, p[i].note = s.pool[i].note) (hpressed : ∀ i : Fin n, p[i].pressed = s.pool[i].pressed) :
    Inv c (s.setPool p) :=
  h.setPool hv fun harp => (h.arpOrder harp).congr hnote hpressed

/-- The same for a pool of legal voices that is sorted in arpeggio mode, as NOTE_ON and NOTE_OFF leave it (R158). -/
theorem Inv.setPool_sorted (h : Inv c s) {p : Pool K n}
    (hv : ∀ i : Fin n, p[i].Legal c (effectiveDetune s) s.params.arpEn) :
    Inv c (s.setPool (if s.params.arpEn = true then poolSort p else p)) := by
  split
  next harp => exact h.setPool (forall_poolSort hv) fun _ => arpOrdered_poolSort fun i => (hv i).pressed harp
  next harp => exact h.setPool hv fun h => absurd h harp

theorem Inv.setFenv (h : Inv c s) {e : Envelope K} (he : e.Ok) : Inv c (s.setFenv e) := { h with fenv := he }

theorem Inv.setArp (h : Inv c s) {a : Arp K n} (ha : PhaseOk a.phase) : Inv c (s.setArp a) := { h with arpPhase := ha }

/-- A write that moves neither the effective detune nor the mode needs no more than its range. -/
theorem Inv.putParam (h : Inv c s) {w : ParamWrite K} (hw : w.Ok) (hdetune : (s.params.put w).detune = s.params.detune)
    (htarget : (s.params.put w).lfoTarget = s.params.lfoTarget) (harp : (s.params.put w).arpEn = s.params.arpEn) :
    Inv c (putParam w s) := by
  have hd : effectiveDetune (Machine.putParam w s) = effectiveDetune s := by
    simp only [effectiveDetune, Machine.putParam, Synth.setParams_params, Synth.setParams_lfo, hdetune, htarget]
  exact {
    h with
    tuned := by rw [hd]; exact h.tuned
    params := h.params.put hw
    arpOrder := fun ha => h.arpOrder (harp.symm.trans ha) }

/-! ## The staging and the ports, which the invariant does not read -/

theorem Inv.presetField (h : Inv c s) (a : BitVec 8) (v : Half) : Inv c (presetField a v s) := by
  unfold Machine.presetField
  split
  · exact { h with }
  · exact h

theorem Inv.rejectImport (h : Inv c s) : Inv c (rejectImport s) := { h with }

theorem Inv.acceptImport (h : Inv c s) : Inv c (acceptImport s) := { h with }

theorem Inv.emit (h : Inv c s) (y : Int) : Inv c (emit y s) := { h with }

theorem Inv.handOff (h : Inv c s) (y : Sample) : Inv c (handOff y s) := by
  unfold Machine.handOff
  split
  · exact { h with }
  · exact h

theorem Inv.setCmdIn (h : Inv c s) (ws : List Word) : Inv c (s.setCmdIn ws) := { h with }

/-! ## NOTE_OFF -/

theorem Inv.releaseSlot (h : Inv c s) (i : Fin n) : Inv c (releaseSlot i s) := by
  have hfenv : Inv c (s.setFenv (if s.params.fEnvEn then envRelease s.fenv else s.fenv)) := h.setFenv (by
    split
    · exact envRelease_ok h.fenv
    · exact h.fenv)
  rw [releaseSlot_eq]
  exact hfenv.setPool_sorted (forall_poolSet h.voiceLegal i (releaseVoice_legal (h.voiceLegal i)))

theorem Inv.noteOff (h : Inv c s) (a : BitVec 8) : Inv c (noteOff a s) := by
  obtain ⟨-, heq⟩ | ⟨-, -, heq⟩ | ⟨i, -, -, -, heq⟩ := noteOff_cases a s <;> rw [heq]
  · exact h
  · exact h
  · exact h.releaseSlot i

section Ordered

variable [IsStrictOrderedRing K]

/-- The effective detune is a signal (R172). -/
theorem effectiveDetune_signalOk (hp : UnitOk s.params.detune) (hl : SignalOk s.lfo.lfoDetune) :
    SignalOk (effectiveDetune s) := by
  unfold effectiveDetune; split
  · exact hl
  · exact hp.signalOk

end Ordered

/-! ## The reclaim pass, the mode switch and the voice at reset -/

variable [FloorRing K]

theorem Voice.reset_ok {N : NumOps K} (hN : N.Exact) : (Voice.reset N).Ok := by
  have hphase := phaseOk_ofRat_zero hN
  exact ⟨.inl rfl, .inl (by simp [Voice.reset, hN.ofRat]), Envelope.reset_ok hN, hphase, hphase, hphase, hphase.1,
    hphase.1, hphase.1⟩

theorem reclaimVoice_legal (hN : c.num.Exact) {det : K} {arp : Bool} {v : Voice K} (h : v.Legal c det arp) :
    (reclaimVoice c.num v).Legal c det arp := by
  unfold reclaimVoice
  split
  · exact h.withEnv (Envelope.reset_ok hN)
  · exact h

theorem forgetVoice_legal (hN : c.num.Exact) {v : Voice K} (h : v.Ok) (det : K) (arp : Bool) :
    (forgetVoice c.num v).Legal c det arp :=
  h.unassign (.inl (by simp [hN.ofRat])) (Envelope.reset_ok hN) det arp

theorem Inv.reclaim (hc : c.Legal) (h : Inv c s) : Inv c (reclaim c s) := by
  cases harp : s.params.arpEn with
  | true => rw [reclaim_of_arp harp]; exact h
  | false =>
    rw [reclaim_of_nonarp harp]
    refine h.setPool (fun i => ?_) fun ha => absurd ha (by simp [harp])
    rw [getElem_poolMap]; exact reclaimVoice_legal hc.exact (h.voiceLegal i)

theorem Inv.arpModeSwitch [NeZero n] (hc : c.Legal) (h : Inv c s) (b : Bool) : Inv c (arpModeSwitch c b s) := by
  unfold Machine.arpModeSwitch
  split
  · exact h
  · have hv : ∀ i : Fin n, (s.pool.map (forgetVoice c.num))[i].Legal c (effectiveDetune s) b := fun i => by
      rw [getElem_poolMap]; exact forgetVoice_legal hc.exact (h.voice i) _ _
    exact {
      h with
      voice := fun i => (hv i).ok
      tuned := fun i => (hv i).tuned
      params := h.params.put (w := .arpEn b) trivial
      arpPhase := phaseOk_ofRat_zero hc.exact
      arpOrder := fun _ => arpOrdered_of_unassigned fun i => by
        simp only [Synth.setArp_pool, Synth.setPool_pool, getElem_poolMap]; exact ⟨rfl, rfl⟩ }

variable [IsStrictOrderedRing K]

/-! ## The operations on a voice -/

/-- A frequency is not negative: no note is below 5 Hz, and a detune moves it by at most 5 Hz (R176). -/
theorem freq_nonneg (hc : c.Legal) {m : Int} (h0 : 0 ≤ m) (h1 : m ≤ 127) {det : K} (hd : SignalOk det) :
    0 ≤ c.noteFreq m ∧ 0 ≤ c.noteFreq m + 5 * det ∧ 0 ≤ c.noteFreq m - 5 * det := by
  have h5 : 5 ≤ c.noteFreq m := by
    have h := hc.freq_floor m.toNat (by omega)
    rwa [Int.toNat_of_nonneg h0] at h
  obtain ⟨hlow, hhigh⟩ := hd
  exact ⟨by linarith, by linarith, by linarith⟩

/-- `set_freqs` keeps an assigned voice in its ranges (R173). -/
theorem setFreqs_ok (hc : c.Legal) {det : K} (hd : SignalOk det) {v : Voice K} (h0 : 0 ≤ v.note) (h1 : v.note ≤ 127)
    (h : v.Ok) : (setFreqs c det v).Ok := by
  obtain ⟨hf0, hf1, hf2⟩ := freq_nonneg hc h0 h1 hd
  rw [setFreqs_eq hc.exact]
  exact { h with freq0 := hf0, freq1 := hf1, freq2 := hf2 }

theorem assignVoice_legal (hc : c.Legal) {det : K} (hd : SignalOk det) {m vel : Nat} (hm : m ≤ 127) (h1 : 1 ≤ vel)
    (h127 : vel ≤ 127) {v : Voice K} (h : v.Ok) (arp : Bool) : (assignVoice c det m vel v).Legal c det arp where
  ok := setFreqs_ok hc hd (Int.natCast_nonneg m) (Int.ofNat_le.mpr hm)
    { h with
      note := .inr ⟨Int.natCast_nonneg m, Int.ofNat_le.mpr hm⟩
      vel := .inr ⟨vel, h1, h127, velocityLevel_eq hc.exact vel⟩
      env := envTrigger_ok hc.exact v.env }
  tuned _ := assignVoice_tuned hc.exact det _ _ _
  pressed _ := by simp

/-- `apply_detune` makes a voice legal for the new detune, whatever the old one was (R174, R175). -/
theorem detuneVoice_legal (hc : c.Legal) {det det' : K} (hd : SignalOk det) {arp : Bool} {v : Voice K}
    (h : v.Legal c det' arp) : (detuneVoice c det v).Legal c det arp where
  ok := by
    by_cases hv : v.note = -1
    · rw [detuneVoice_of_unassigned hv]; exact h.ok
    · obtain ⟨h0, h1⟩ := h.ok.note.resolve_left hv
      rw [detuneVoice_of_assigned hv]; exact setFreqs_ok hc hd h0 h1 h.ok
  tuned := detuneVoice_tuned hc.exact det v
  pressed := by simpa using h.pressed

theorem renderVoice_legal (hc : c.Legal) {p : Params K} (hp : p.Ok) {det : K} {arp : Bool} {v : Voice K}
    (h : v.Legal c det arp) : (renderVoice c p v).Legal c det arp where
  ok := { h.ok with
    env := envAdvance_ok hc hp.adsr h.ok.env
    phase0 := phaseStep_ok hc.exact _ _
    phase1 := phaseStep_ok hc.exact _ _
    phase2 := phaseStep_ok hc.exact _ _ }
  tuned := h.tuned
  pressed := h.pressed

/-! ## `apply_detune` -/

theorem Inv.detunedVoice (hc : c.Legal) (h : Inv c s) {det : K} (hd : SignalOk det) (i : Fin n) :
    (s.pool.map (detuneVoice c det))[i].Legal c det s.params.arpEn := by
  rw [getElem_poolMap]; exact detuneVoice_legal hc hd (h.voiceLegal i)

/-- New registers or a new LFO in their ranges, the mode kept, and then `apply_detune`: the one way to change the
effective detune (R174, R175). -/
theorem Inv.applyDetune (hc : c.Legal) (h : Inv c s) {p : Params K} (hp : p.Ok) (harp : p.arpEn = s.params.arpEn)
    {l : Lfo K} (hphase : PhaseOk l.phase) (hdetune : SignalOk l.lfoDetune) (hamp : SignalOk l.lfoAmp) :
    Inv c (applyDetune c ((s.setParams p).setLfo l)) := by
  have hd : SignalOk (effectiveDetune ((s.setParams p).setLfo l)) := effectiveDetune_signalOk hp.detune hdetune
  rw [applyDetune_eq]
  exact {
    h with
    voice := fun i => (h.detunedVoice hc hd i).ok
    tuned := fun i => (h.detunedVoice hc hd i).tuned
    params := hp
    lfoPhase := hphase
    lfoDetune := hdetune
    lfoAmp := hamp
    arpOrder := fun ha => (h.arpOrder (harp.symm.trans ha)).congr (by simp) (by simp) }

/-! ## NOTE_ON -/

theorem Inv.assignSlot (hc : c.Legal) (h : Inv c s) (i : Fin n) {m vel : Nat} (hm : m ≤ 127) (h1 : 1 ≤ vel)
    (h127 : vel ≤ 127) : Inv c (assignSlot c i m vel s) := by
  have hd := effectiveDetune_signalOk h.params.detune h.lfoDetune
  have hfenv : Inv c (s.setFenv (if s.params.fEnvEn then envTrigger c s.fenv else s.fenv)) := h.setFenv (by
    split
    · exact envTrigger_ok hc.exact _
    · exact h.fenv)
  rw [assignSlot_eq]
  exact hfenv.setPool_sorted (forall_poolSet h.voiceLegal i (assignVoice_legal hc hd hm h1 h127 (h.voice i) _))

theorem Inv.noteOn (hc : c.Legal) (h : Inv c s) (a : BitVec 8) (v : Half) : Inv c (noteOn c a v s) := by
  obtain ⟨-, heq⟩ | ⟨-, -, heq⟩ | ⟨i, ha, -, -, heq⟩ := noteOn_cases c a v s <;> rw [heq]
  · exact h
  · exact h.reclaim hc
  · obtain ⟨h1, h127⟩ := velocityOperand_mem v
    exact (h.reclaim hc).assignSlot hc i ha h1 h127

/-! ## Register writes and presets -/

theorem Inv.writeParam [NeZero n] (hc : c.Legal) (h : Inv c s) {w : ParamWrite K} (hw : w.Ok) :
    Inv c (writeParam c w s) := by
  cases w with
  | arpEn b => exact h.arpModeSwitch hc b
  | detune x => exact h.applyDetune hc (h.params.put hw) rfl h.lfoPhase h.lfoDetune h.lfoAmp
  | lfoTarget t => exact h.applyDetune hc (h.params.put hw) rfl h.lfoPhase h.lfoDetune h.lfoAmp
  | _ => exact h.putParam hw rfl rfl rfl

theorem Inv.presetCommit (hc : c.Legal) (h : Inv c s) : Inv c (presetCommit c s) := by
  unfold Machine.presetCommit
  split
  · exact (h.applyDetune hc (stagedParams_ok hc.exact h.params) rfl h.lfoPhase h.lfoDetune h.lfoAmp).acceptImport
  · exact h.rejectImport

/-! ## TICK -/

theorem Inv.retriggerAt (hc : c.Legal) (h : Inv c s) (i : Fin n) : Inv c (retriggerAt c i s) := by
  have he := envTrigger_ok hc.exact
  rw [retriggerAt_eq]
  split
  · refine (h.setPool_sameNotes (fun j => ?_) (fun j => ?_) fun j => ?_).setFenv ?_
    · exact forall_poolSet h.voiceLegal i ((h.voiceLegal i).withEnv (he _)) j
    · rw [getElem_poolSet_withEnv]
    · rw [getElem_poolSet_withEnv]
    · split
      · exact he _
      · exact h.fenv
  · exact h

theorem Inv.arpFire [NeZero n] (hc : c.Legal) (h : Inv c s) : Inv c (arpFire c s) := by
  have hphase := phaseOk_ofRat_zero hc.exact
  by_cases hcnt : pressedCount s.pool = 0
  · rw [arpFire_of_none hcnt]; exact h.setArp hphase
  · rw [arpFire_of_some hcnt]; exact (h.setArp hphase).retriggerAt hc _

theorem Inv.arpStep [NeZero n] (hc : c.Legal) (h : Inv c s) : Inv c (arpStep c s) := by
  have hfires := arpStep_fires hc.exact s
  by_cases h1 : 1 ≤ s.arp.phase + s.params.bpm / (60 * c.rate)
  · rw [arpStep_of_le (by simpa [hfires] using h1)]; exact h.arpFire hc
  · have hinc : 0 ≤ s.params.bpm / (60 * c.rate) := div_nonneg h.params.bpm.1 (by positivity)
    rw [arpStep_of_lt (by simpa [hfires] using h1)]
    refine h.setArp ?_
    rw [hc.exact.add, tempoIncrement_eq hc.exact]
    exact ⟨add_nonneg h.arpPhase.1 hinc, not_le.mp h1⟩

theorem Inv.tickArp [NeZero n] (hc : c.Legal) (h : Inv c s) : Inv c (tickArp c s) := by
  unfold Machine.tickArp
  split
  · exact h.arpStep hc
  · exact h

theorem Inv.tickVoices (hc : c.Legal) (h : Inv c s) : Inv c (tickVoices c s) := by
  refine h.setPool_sameNotes (fun i => ?_) (fun i => ?_) fun i => ?_ <;> rw [getElem_renderPool] <;> split
  · exact renderVoice_legal hc h.params (h.voiceLegal i)
  · exact h.voiceLegal i
  all_goals rfl

theorem Inv.lfoPhaseStep (hc : c.Legal) (h : Inv c s) : Inv c (lfoPhaseStep c s) :=
  { h with lfoPhase := phaseStep_ok hc.exact _ _ }

theorem Inv.routeLfo (hc : c.Legal) (h : Inv c s) {m : K} (hm : SignalOk m) : Inv c (routeLfo c m s) := by
  have hmul : ∀ x, UnitOk x → SignalOk (c.num.mul m x) := fun x hx => by rw [hc.exact.mul]; exact hm.mul_unit hx
  unfold Machine.routeLfo
  split
  · exact h
  · exact { h with lfoCutoff := hmul _ h.params.cutoff }
  · exact h.applyDetune hc h.params rfl h.lfoPhase (hmul _ h.params.detune) h.lfoAmp
  · exact { h with lfoAmp := hmul _ h.params.amplitude }

theorem Inv.lfoUpdate (hc : c.Legal) (h : Inv c s) : Inv c (lfoUpdate c s) :=
  (h.lfoPhaseStep hc).routeLfo hc (lfoMultiplier_signalOk hc _ h.lfoPhase)

theorem Inv.filterEnvStep (hc : c.Legal) (h : Inv c s) : Inv c (filterEnvStep c s) := by
  unfold Machine.filterEnvStep
  split
  · exact {
      h with
      fenv := envAdvance_ok hc h.params.fAdsr h.fenv
      envCutoff := envelopeCutoff_ok hc.exact _ _ }
  · exact h

theorem Inv.filterStep (hc : c.Legal) (h : Inv c s) {x : K} (hx : SignalOk x) : Inv c (filterStep c x s) :=
  { h with prevIn := hx, prevOut := filterOut_signalOk hc hx h.prevOut }

/-- The six stages of a TICK and the sample on the port (R236). -/
theorem Inv.tick [NeZero n] (hc : c.Legal) (h : Inv c s) : Inv c (tick c s) := by
  have hvoices := (h.tickArp hc).tickVoices hc
  have hfenv := (hvoices.lfoUpdate hc).filterEnvStep hc
  exact (hfenv.filterStep hc (mixed_signalOk hc.exact _ _ _)).emit _

/-! ## Every command and every step -/

theorem Inv.command [NeZero n] (hc : c.Legal) (h : Inv c s) (i : Instr) : Inv c (command c i s) := by
  obtain rfl | ⟨w, hw⟩ | ⟨a, v, rfl⟩ | ⟨a, rfl⟩ | rfl | ⟨a, v, rfl⟩ | rfl | rfl := command_cases c.num i
  · exact h
  · rw [command_eq_writeParam c s hw]; exact h.writeParam hc (paramWriteOf_ok hc.exact hw)
  · exact h.noteOn hc a v
  · exact h.noteOff a
  · exact h.tick hc
  · exact h.presetField a v
  · exact h.presetCommit hc
  · exact h.rejectImport

theorem inv_reset [NeZero n] (hc : c.Legal) : Inv c (Synth.reset c) := by
  have hpool : ∀ i : Fin n, (Synth.reset c).pool[i] = Voice.reset c.num := fun i => by simp [Synth.reset]
  have hphase := phaseOk_ofRat_zero hc.exact
  have hsignal := hphase.unitOk.signalOk
  exact {
    voice := fun i => by rw [hpool]; exact Voice.reset_ok hc.exact
    tuned := fun i hi => absurd (by rw [hpool]; rfl) hi
    params := hc.reset_params
    fenv := Envelope.reset_ok hc.exact
    envCutoff := hphase.unitOk
    lfoCutoff := hsignal
    prevOut := hsignal
    prevIn := hsignal
    lfoPhase := hphase
    lfoDetune := hsignal
    lfoAmp := hsignal
    arpPhase := hphase
    arpOrder := fun _ => arpOrdered_of_unassigned fun i => by rw [hpool]; exact ⟨rfl, rfl⟩ }

theorem inv_applyReset [NeZero n] (hc : c.Legal) (s : Synth K n) : Inv c (applyReset c s) := { inv_reset hc with }

theorem Inv.stepWith [NeZero n] (hc : c.Legal) (h : Inv c s) : Inv c (stepWith c s) := by
  unfold Machine.stepWith
  split
  · exact inv_applyReset hc s
  · split
    next y _ => exact h.handOff y
    next =>
      unfold fetch
      cases s.cmdIn with
      | nil => exact h
      | cons w ws => exact (h.setCmdIn ws).command hc _

/-- Settles O13: nothing is assigned at reset, and every other value is 0 or the start-up patch's. -/
theorem resetMeetsInvariant : Obligations.ResetMeetsInvariant := fun _ _ _ _ _ _ _ _ hc => inv_reset hc

/-- Settles O15: each operation a command or a step is made of keeps the invariant. -/
theorem commandsKeepInvariantForEveryConfiguration : Obligations.CommandsKeepInvariantForEveryConfiguration :=
  fun _ _ _ _ _ _ _ _ _ hc h => ⟨fun i => h.command hc i, h.stepWith hc⟩

/-- Settles O14: the machine is the engine at its own configuration, which is legal. -/
theorem stepKeepsInvariant : Obligations.StepKeepsInvariant := by
  intro s t h ht
  rw [step_eq_stepWith] at ht
  cases ht
  exact h.stepWith engine_legal

end Sys2Proof.Machine
end

section
/-! PROOF. What a step outside reset is, whatever the configuration, and O9: the hand-off moves a sample from the port to
the sink, a TICK puts one on the port, and no other command touches either (spec/20_memory.md R74,
spec/30_encoding.md R81, R84). -/

namespace Sys2Proof.Machine

variable {R : Type} {n : Nat}

/-! ## The step outside reset -/

/-- Outside reset, with the sample port empty, a step takes the word at the head of the command port (R81). -/
theorem stepWith_of_word [NeZero n] (c : Config R n) {s : Synth R n} {w : Word} {ws : List Word} (hrst : s.rst = false)
    (hport : s.smpOut = none) (hcmd : s.cmdIn = w :: ws) :
    stepWith c s = command c (decodeOrNop w) (s.setCmdIn ws) := by
  simp [stepWith, fetch, hrst, hport, hcmd]

/-- Outside reset a step is the hand-off of the sample on the port, or the next command, or nothing (R81, R84, R330). -/
theorem stepWith_cases [NeZero n] (c : Config R n) {s : Synth R n} (hrst : s.rst = false) :
    (∃ y, s.smpOut = some y ∧ stepWith c s = handOff y s) ∨
      (s.smpOut = none ∧ s.cmdIn = [] ∧ stepWith c s = s) ∨
      ∃ w ws, s.smpOut = none ∧ s.cmdIn = w :: ws ∧ stepWith c s = command c (decodeOrNop w) (s.setCmdIn ws) := by
  cases hport : s.smpOut with
  | some y => exact .inl ⟨y, rfl, by simp [stepWith, hrst, hport]⟩
  | none =>
    cases hcmd : s.cmdIn with
    | nil => exact .inr (.inl ⟨rfl, rfl, by simp [stepWith, fetch, hrst, hport, hcmd]⟩)
    | cons w ws => exact .inr (.inr ⟨w, ws, rfl, rfl, stepWith_of_word c hrst hport hcmd⟩)

/-- A word that selects no row executes as `NOP`, so only a word of TICK's row executes as one (R89). -/
theorem decodeOrNop_eq_tick_iff {w : Word} : decodeOrNop w = .tick ↔ decode w = .ok .tick := by
  unfold decodeOrNop
  cases decode w with
  | ok i => simp
  | error e => simp

/-- Outside reset, with the sample port empty and a word on offer, the step takes a TICK exactly if the word is one. -/
theorem takesTick_iff {s : Synth R n} {w : Word} {ws : List Word} (hrst : s.rst = false) (hport : s.smpOut = none)
    (hcmd : s.cmdIn = w :: ws) : TakesTick s ↔ decodeOrNop w = .tick := by
  simp [TakesTick, hrst, hport, hcmd, decodeOrNop_eq_tick_iff]

/-! ## The sample port and the sink under one command -/

/-- Two states agree in the sample on the port and in the samples the sink has taken. -/
structure SameSamples (s t : Synth R n) : Prop where
  smpOut : t.smpOut = s.smpOut
  sink : t.sink = s.sink

theorem SameSamples.emitted_eq {s t : Synth R n} (h : SameSamples s t) : emitted t = emitted s := by
  unfold emitted; rw [h.smpOut, h.sink]

theorem sameSamples_presetField (a : BitVec 8) (v : Half) (s : Synth R n) : SameSamples s (presetField a v s) := by
  unfold presetField; split <;> exact ⟨rfl, rfl⟩

theorem sameSamples_presetCommit (c : Config R n) (s : Synth R n) : SameSamples s (presetCommit c s) := by
  unfold presetCommit; split <;> exact ⟨rfl, rfl⟩

/-- Only a TICK emits a sample (R74). -/
theorem sameSamples_command [NeZero n] (c : Config R n) {i : Instr} (hi : i ≠ .tick) (s : Synth R n) :
    SameSamples s (command c i s) := by
  obtain rfl | ⟨w, hw⟩ | ⟨a, v, rfl⟩ | ⟨a, rfl⟩ | rfl | ⟨a, v, rfl⟩ | rfl | rfl := command_cases c.num i
  · exact ⟨rfl, rfl⟩
  · rw [command_eq_writeParam c s hw, writeParam_frame]; exact ⟨rfl, rfl⟩
  · show SameSamples s (noteOn c a v s)
    rw [noteOn_frame]; exact ⟨rfl, rfl⟩
  · show SameSamples s (noteOff a s)
    rw [noteOff_frame]; exact ⟨rfl, rfl⟩
  · exact absurd rfl hi
  · exact sameSamples_presetField a v s
  · exact sameSamples_presetCommit c s
  · exact ⟨rfl, rfl⟩

theorem tick_sink [NeZero n] (c : Config R n) (s : Synth R n) : (tick c s).sink = s.sink := by rw [tick_frame]

/-- A TICK that finds the port empty emits the sample it computes, after all the earlier ones (R74, R233). -/
theorem emitted_tick [NeZero n] (c : Config R n) {s : Synth R n} (hport : s.smpOut = none) :
    emitted (tick c s) = emitted s ++ [BitVec.ofInt 16 (quantise c (tick c s).flt.prevOut)] := by
  simp [emitted, tick_smpOut, tick_sink, hport]

/-- The hand-off emits nothing: the sample was on the port, and is at the end of the sink's samples after it (R84). -/
theorem emitted_handOff {s : Synth R n} {y : Sample} (hport : s.smpOut = some y) : emitted (handOff y s) = emitted s := by
  unfold handOff
  split
  · simp [emitted, hport]
  · rfl

/-! ## The samples emitted by a step -/

/-- A step that takes a TICK emits one sample, after all the earlier ones (R74). -/
theorem emitted_stepWith_of_takesTick [NeZero n] (c : Config R n) {s : Synth R n} (h : TakesTick s) :
    ∃ y, emitted (stepWith c s) = emitted s ++ [y] := by
  obtain ⟨hrst, hport, w, ws, hcmd, hw⟩ := h
  rw [stepWith_of_word c hrst hport hcmd, decodeOrNop_eq_tick_iff.mpr hw]
  exact ⟨_, emitted_tick c hport⟩

/-- A step outside reset that takes no TICK emits nothing and loses nothing (R74). -/
theorem emitted_stepWith_of_not_takesTick [NeZero n] (c : Config R n) {s : Synth R n} (hrst : s.rst = false)
    (h : ¬TakesTick s) : emitted (stepWith c s) = emitted s := by
  obtain ⟨y, hport, hstep⟩ | ⟨-, -, hstep⟩ | ⟨w, ws, hport, hcmd, hstep⟩ := stepWith_cases c hrst
  · rw [hstep]; exact emitted_handOff hport
  · rw [hstep]
  · have hi : decodeOrNop w ≠ .tick := fun hw => h ((takesTick_iff hrst hport hcmd).mpr hw)
    rw [hstep]
    exact (sameSamples_command c hi (s.setCmdIn ws)).emitted_eq

/-- Settles O9: the machine's step is that of the engine at its own configuration, which takes a TICK or does not. -/
theorem oneSamplePerTickInOrder : Obligations.OneSamplePerTickInOrder := by
  intro s t hrst ht
  rw [step_eq_stepWith] at ht
  cases ht
  exact ⟨emitted_stepWith_of_takesTick engine, emitted_stepWith_of_not_takesTick engine hrst⟩

end Sys2Proof.Machine
end

section
/-! PROOF. O1 to O4: the decoder, the encoder and the opcode table (spec/30_encoding.md R80 to R96). They rest on one
fact, `decode_eq_ok_iff`: a word decodes to `i` exactly if its bits under `i.usedMask` are the word the assembler writes
for `i`. -/

namespace Sys2Proof

/-! ## The fields of a word under a mask -/

theorem wordOf_inj {op op' a a' : BitVec 8} {v v' : Half} :
    wordOf op a v = wordOf op' a' v' ↔ op = op' ∧ a = a' ∧ v = v' := by
  constructor
  · intro h
    have hop := congrArg opField h
    have ha := congrArg aField h
    have hv := congrArg vField h
    rw [opField_wordOf, opField_wordOf] at hop
    rw [aField_wordOf, aField_wordOf] at ha
    rw [vField_wordOf, vField_wordOf] at hv
    exact ⟨hop, ha, hv⟩
  · rintro ⟨rfl, rfl, rfl⟩
    rfl

theorem wordOf_and (op op' a a' : BitVec 8) (v v' : Half) :
    wordOf op a v &&& wordOf op' a' v' = wordOf (op &&& op') (a &&& a') (v &&& v') := by
  show (op ++ a ++ v : BitVec (8 + 8 + 16)) &&& (op' ++ a' ++ v') = _
  rw [BitVec.and_append, BitVec.and_append]
  rfl

/-- The bits NOP, PRESET_COMMIT, PRESET_ABORT, TICK and the rows without a register read are the field `OP` (R82). -/
theorem and_opMask (w : Word) : w &&& 0xFF000000#32 = wordOf (opField w) 0#8 0#16 := by
  calc w &&& 0xFF000000#32
      = wordOf (opField w) (aField w) (vField w) &&& wordOf (BitVec.allOnes 8) 0#8 0#16 := by rw [wordOf_fields]; rfl
    _ = wordOf (opField w) 0#8 0#16 := by rw [wordOf_and, BitVec.and_allOnes, BitVec.and_zero, BitVec.and_zero]

/-- The bits NOTE_OFF and the CC and SET rows read are the fields `OP` and `A` (R82, R96). -/
theorem and_opAMask (w : Word) : w &&& 0xFFFF0000#32 = wordOf (opField w) (aField w) 0#16 := by
  calc w &&& 0xFFFF0000#32
      = wordOf (opField w) (aField w) (vField w) &&& wordOf (BitVec.allOnes 8) (BitVec.allOnes 8) 0#16 := by
        rw [wordOf_fields]; rfl
    _ = wordOf (opField w) (aField w) 0#16 := by
        rw [wordOf_and, BitVec.and_allOnes, BitVec.and_allOnes, BitVec.and_zero]

theorem opRow_selects_iff {m : String} {op : BitVec 8} {w : Word} :
    (opRow m op).selects w = true ↔ opField w = op := by
  simp [Row.selects, opRow, and_opMask, wordOf_inj]

theorem regRow_selects_iff {m : String} {op a : BitVec 8} {w : Word} :
    (regRow m op a).selects w = true ↔ opField w = op ∧ aField w = a := by
  simp [Row.selects, regRow, and_opAMask, wordOf_inj]

/-! ## Decoding and encoding -/

theorem decode_encode (i : Instr) : decode (encode i) = .ok i := by
  cases i <;> simp [encode, decode, decodeCc, decodeSet, opField_wordOf, aField_wordOf, vField_wordOf]

/-- The bits a command reads: the whole word but for NOTE_OFF, which does not read `V`, and for the commands without
operands, which read `OP` alone (R82). -/
theorem usedMask_cases (i : Instr) :
    i.usedMask = 0xFFFFFFFF#32 ∨ (∃ a, i = .noteOff a) ∨
      i = .nop ∨ i = .presetCommit ∨ i = .presetAbort ∨ i = .tick := by
  cases i <;> simp [Instr.usedMask]

/-- A CC command reads its whole word (R82, R91). -/
theorem encode_usedMask_of_decodeCc {a : BitVec 8} {v : Half} {i : Instr} (h : decodeCc a v = .ok i) :
    encode i = wordOf 3#8 a v ∧ i.usedMask = 0xFFFFFFFF#32 := by
  unfold decodeCc at h
  split at h <;> rename_i ha <;> cases h <;>
    exact ⟨congrArg (wordOf 3#8 · v) (BitVec.eq_of_toNat_eq ha.symm), rfl⟩

/-- A SET command reads its whole word (R82, R91). -/
theorem encode_usedMask_of_decodeSet {a : BitVec 8} {v : Half} {i : Instr} (h : decodeSet a v = .ok i) :
    encode i = wordOf 4#8 a v ∧ i.usedMask = 0xFFFFFFFF#32 := by
  unfold decodeSet at h
  split at h <;> rename_i ha <;> cases h <;>
    exact ⟨congrArg (wordOf 4#8 · v) (BitVec.eq_of_toNat_eq ha.symm), rfl⟩

theorem and_usedMask_of_whole {w : Word} {i : Instr} {op : BitVec 8}
    (h : encode i = wordOf op (aField w) (vField w) ∧ i.usedMask = 0xFFFFFFFF#32)
    (hop : (opField w).toNat = op.toNat) : w &&& i.usedMask = encode i := by
  obtain ⟨hword, hmask⟩ := h
  rw [hword, hmask, Laws.SelectsRow.wordOf_and_all, ← BitVec.eq_of_toNat_eq hop, wordOf_fields]

/-- A word that decodes to a command is the command's own word, up to the bits the command ignores (R90). -/
theorem and_usedMask_of_decode {w : Word} {i : Instr} (h : decode w = .ok i) : w &&& i.usedMask = encode i := by
  have hOp {op : BitVec 8} (hop : (opField w).toNat = op.toNat) : w &&& 0xFF000000#32 = wordOf op 0#8 0#16 := by
    rw [and_opMask, BitVec.eq_of_toNat_eq hop]
  unfold decode at h
  split at h
  next hop => cases h; exact hOp hop
  next hop => cases h; exact and_usedMask_of_whole ⟨rfl, rfl⟩ hop
  next hop => cases h; exact (and_opAMask w).trans (congrArg (wordOf · _ _) (BitVec.eq_of_toNat_eq hop))
  next hop => exact and_usedMask_of_whole (encode_usedMask_of_decodeCc h) hop
  next hop => exact and_usedMask_of_whole (encode_usedMask_of_decodeSet h) hop
  next hop => cases h; exact and_usedMask_of_whole ⟨rfl, rfl⟩ hop
  next hop => cases h; exact hOp hop
  next hop => cases h; exact hOp hop
  next hop => cases h; exact hOp hop
  next => cases h

/-- A word that agrees with a command's own word in the bits the command reads decodes to it (R90). -/
theorem decode_of_and_usedMask {w : Word} {i : Instr} (h : w &&& i.usedMask = encode i) : decode w = .ok i := by
  obtain hall | ⟨a, rfl⟩ | rfl | rfl | rfl | rfl := usedMask_cases i
  · rw [hall, Laws.SelectsRow.wordOf_and_all] at h
    rw [h, decode_encode]
  · obtain ⟨hop, ha, -⟩ := wordOf_inj.mp ((and_opAMask w).symm.trans h)
    simp [decode, hop, ha]
  all_goals
    obtain ⟨hop, -⟩ := wordOf_inj.mp ((and_opMask w).symm.trans h)
    simp [decode, hop]

/-- What a word decodes to, said once: `i` exactly if the bits `i` reads are those of its own word (R82, R90). -/
theorem decode_eq_ok_iff {w : Word} {i : Instr} : decode w = .ok i ↔ w &&& i.usedMask = encode i :=
  ⟨and_usedMask_of_decode, decode_of_and_usedMask⟩

/-! ## The bytes of a transport -/

theorem wordOfBytes_extractLsb' (w : Word) :
    wordOfBytes (w.extractLsb' 0 8) (w.extractLsb' 8 8) (w.extractLsb' 16 8) (w.extractLsb' 24 8) = w := by
  unfold wordOfBytes
  rw [BitVec.extractLsb'_append_extractLsb'_eq_extractLsb' (start₂ := 24) (start₁ := 16) rfl,
    BitVec.extractLsb'_append_extractLsb'_eq_extractLsb' (start₂ := 16) (start₁ := 8) rfl,
    BitVec.extractLsb'_append_extractLsb'_eq_extractLsb' (start₂ := 8) (start₁ := 0) rfl]
  exact BitVec.extractLsb'_eq_self

theorem decodeBytes_bytesOfWord {w : Word} {i : Instr} (h : decode w = .ok i) (rest : List Byte) :
    decodeBytes (bytesOfWord w ++ rest) = .ok (i, rest) := by
  simp [bytesOfWord, decodeBytes, wordOfBytes_extractLsb', h]

theorem toNat_append_byte {n : Nat} (x : BitVec n) (b : Byte) : (x ++ b).toNat = b.toNat + 256 * x.toNat := by
  rw [BitVec.toNat_append, ← Nat.shiftLeft_add_eq_or_of_lt b.isLt, Nat.shiftLeft_eq]
  omega

theorem toNat_wordOfBytes (b0 b1 b2 b3 : Byte) : (wordOfBytes b0 b1 b2 b3).toNat =
    b0.toNat + 256 * b1.toNat + 256 ^ 2 * b2.toNat + 256 ^ 3 * b3.toNat := by
  show (b3 ++ b2 ++ b1 ++ b0 : BitVec (8 + 8 + 8 + 8)).toNat = _
  rw [toNat_append_byte, toNat_append_byte, toNat_append_byte]
  ring

theorem bytesOfSample_sampleOfBytes (b0 b1 : Byte) : bytesOfSample (sampleOfBytes b0 b1) = [b0, b1] := by
  have h0 : (sampleOfBytes b0 b1).extractLsb' 0 8 = b0 := BitVec.extractLsb'_append_eq_right
  have h1 : (sampleOfBytes b0 b1).extractLsb' 8 8 = b1 := BitVec.extractLsb'_append_eq_left
  rw [bytesOfSample, h0, h1]

/-- Settles O2: the fields of `OP A V` and the bytes of a transport are both read back from where they were written. -/
theorem decodeUndoesEncode : Obligations.DecodeUndoesEncode :=
  ⟨decode_encode, fun i => decodeBytes_bytesOfWord (decode_encode i), toNat_wordOfBytes,
    fun b0 b1 => ⟨toNat_append_byte b1 b0, bytesOfSample_sampleOfBytes b0 b1⟩⟩

/-- Settles O3: both halves are `decode_eq_ok_iff`. -/
theorem unusedFieldsAreIgnored : Obligations.UnusedFieldsAreIgnored := by
  refine ⟨fun w w' i h hw => ?_, fun w i h => (decode_eq_ok_iff.mp h).symm⟩
  rw [decode_eq_ok_iff] at h ⊢
  rw [← hw, h]

/-! ## The opcode table -/

open Laws.SelectsRow in
/-- The family `SelectsRow` for every command. -/
theorem selectsRow : ∀ i : Instr, Laws.SelectsRow.Statement i
  | .nop => nop | .noteOn a v => noteOn a v | .noteOff a => noteOff a | .ccAttack v => ccAttack v
  | .ccDecay v => ccDecay v | .ccSustain v => ccSustain v | .ccRelease v => ccRelease v | .ccCutoff v => ccCutoff v
  | .ccWaveA v => ccWaveA v | .ccWaveB v => ccWaveB v | .ccWaveC v => ccWaveC v | .ccDetune v => ccDetune v
  | .ccAmplitude v => ccAmplitude v | .setAttack v => setAttack v | .setDecay v => setDecay v
  | .setSustain v => setSustain v | .setRelease v => setRelease v | .setFAttack v => setFAttack v
  | .setFDecay v => setFDecay v | .setFSustain v => setFSustain v | .setFRelease v => setFRelease v
  | .setCutoff v => setCutoff v | .setFEnvEn v => setFEnvEn v | .setWaveA v => setWaveA v | .setWaveB v => setWaveB v
  | .setWaveC v => setWaveC v | .setDetune v => setDetune v | .setAmplitude v => setAmplitude v
  | .setLfoTarget v => setLfoTarget v | .setLfoWave v => setLfoWave v | .setLfoFreq v => setLfoFreq v
  | .setArpEn v => setArpEn v | .setBpm v => setBpm v | .presetField a v => presetField a v
  | .presetCommit => presetCommit | .presetAbort => presetAbort | .tick => tick

/-- A command reads every bit that selects its row. -/
theorem usedMask_and_rowMask (i : Instr) : i.usedMask &&& i.row.mask = i.row.mask := by
  obtain hall | ⟨a, rfl⟩ | rfl | rfl | rfl | rfl := usedMask_cases i
  · rw [hall]; exact BitVec.allOnes_and
  · show 0xFFFF0000#32 &&& 0xFF000000#32 = 0xFF000000#32
    decide
  all_goals exact BitVec.and_self

theorem Row.selects_iff {r : Row} {w : Word} : r.selects w = true ↔ w &&& r.mask = r.pattern := by
  rw [Row.selects, beq_iff_eq]

theorem row_mem_opcodeTable (i : Instr) : i.row ∈ opcodeTable := by
  obtain ⟨-, -, hmem⟩ := selectsRow i
  exact hmem

/-- A word that decodes to a command selects the command's row: the row's bits are among those the command reads. -/
theorem row_selects_of_decode {w : Word} {i : Instr} (h : decode w = .ok i) : i.row.selects w = true := by
  obtain ⟨hsel, -, -⟩ := selectsRow i
  rw [Row.selects_iff] at hsel ⊢
  calc w &&& i.row.mask
      = w &&& i.usedMask &&& i.row.mask := by rw [BitVec.and_assoc, usedMask_and_rowMask]
    _ = encode i &&& i.row.mask := by rw [decode_eq_ok_iff.mp h]
    _ = i.row.pattern := hsel

/-- A CC row fixes `OP` and `A`, and with them what `decode` answers (R91). -/
theorem exists_decode_of_ccRows {w : Word} :
    ∀ r ∈ ccRows, r.selects w = true → ∃ i, decode w = .ok i ∧ i.row = r := by
  simp +contextual [ccRows, regRow_selects_iff, decode, decodeCc, Instr.row]

/-- A SET row fixes `OP` and `A`, and with them what `decode` answers (R91). -/
theorem exists_decode_of_setRows {w : Word} :
    ∀ r ∈ setRows, r.selects w = true → ∃ i, decode w = .ok i ∧ i.row = r := by
  simp +contextual [setRows, regRow_selects_iff, decode, decodeSet, Instr.row]

/-- A row of the table that a word selects is the row of the command the word decodes to (R96). -/
theorem exists_decode_of_selects {w : Word} {r : Row} (hr : r ∈ opcodeTable) (h : r.selects w = true) :
    ∃ i, decode w = .ok i ∧ i.row = r := by
  simp only [opcodeTable, List.mem_append, List.mem_cons, List.not_mem_nil, or_false] at hr
  obtain (((rfl | rfl | rfl) | hr) | hr) | rfl | rfl | rfl | rfl := hr
  case inl.inl.inr => exact exists_decode_of_ccRows r hr h
  case inl.inr => exact exists_decode_of_setRows r hr h
  all_goals simp [decode, opRow_selects_iff.mp h, Instr.row]

/-- The rows are disjoint, since each row a word selects is that of the one command it decodes to (R96). -/
theorem row_unique {w : Word} {r r' : Row} (hr : r ∈ opcodeTable) (hr' : r' ∈ opcodeTable) (h : r.selects w = true)
    (h' : r'.selects w = true) : r = r' := by
  obtain ⟨i, hi, rfl⟩ := exists_decode_of_selects hr h
  obtain ⟨i', hi', rfl⟩ := exists_decode_of_selects hr' h'
  cases hi.symm.trans hi'
  rfl

/-- Exactly the CC and SET rows match on `A` as well (R96). -/
theorem rowMask_eq_iff (i : Instr) :
    i.row.mask = 0xFFFF0000#32 ↔ (opField (encode i) = 3 ∨ opField (encode i) = 4) := by
  cases i <;> simp [Instr.row, opRow, regRow, encode, opField_wordOf]

theorem decodeOrNop_of_ok {w : Word} {i : Instr} (h : decode w = .ok i) : decodeOrNop w = i := by
  rw [decodeOrNop, h]

theorem decodeOrNop_of_error {w : Word} {e : Reserved} (h : decode w = .error e) : decodeOrNop w = .nop := by
  rw [decodeOrNop, h]

theorem decodeOrNop_of_no_row {w : Word} (h : ∀ r ∈ opcodeTable, r.selects w = false) : decodeOrNop w = .nop := by
  cases hw : decode w with
  | error e => exact decodeOrNop_of_error hw
  | ok i => exact absurd (row_selects_of_decode hw) (by simp [h i.row (row_mem_opcodeTable i)])

/-- Settles O4: row selection both ways, and from it the disjointness and the NOP of a word that selects no row. -/
theorem decodingIsRowSelection : Obligations.DecodingIsRowSelection := by
  refine ⟨by decide, rowMask_eq_iff, fun w r hr r' hr' => row_unique hr hr',
    fun w i h => ⟨row_mem_opcodeTable i, row_selects_of_decode h⟩, fun w r hr => exists_decode_of_selects hr,
    fun w => decodeOrNop_of_no_row⟩

/-- Settles O1: each word is decoded by evaluation. -/
theorem specWordsDecode : Obligations.SpecWordsDecode := by
  unfold Obligations.SpecWordsDecode
  decide

end Sys2Proof
end

section
/-! PROOF. O5, O6 and O8: what a step outside reset does with a word, a reserved word, a sample on the port, and nothing
on either port (spec/30_encoding.md R81, R84, R89; spec/60_exceptions.md R330). -/

namespace Sys2Proof

/-! ## Words that select no row (R89) -/

theorem decode_of_reservedOpcode {w : Word} (h : 9 ≤ (opField w).toNat) :
    decode w = .error (.opcode (opField w)) := by
  unfold decode
  split
  case h_10 => rfl
  all_goals omega

theorem decodeCc_of_reservedId {a : BitVec 8} (h : a.toNat ∉ [0, 1, 2, 3, 8, 10, 11, 12, 13, 14]) (v : Half) :
    decodeCc a v = .error (.ccId a) := by
  unfold decodeCc
  split
  case h_11 => rfl
  all_goals
    rename_i ha
    simp [ha] at h

theorem decodeSet_of_reservedId {a : BitVec 8} (h : 20 ≤ a.toNat) (v : Half) : decodeSet a v = .error (.setId a) := by
  unfold decodeSet
  split
  case h_21 => rfl
  all_goals omega

end Sys2Proof

namespace Sys2Proof.Machine

variable {R : Type} {n : Nat}

/-! ## Commands with a reserved operand (R89) -/

theorem noteOn_of_reservedNote (c : Config R n) {a : BitVec 8} (ha : 128 ≤ a.toNat) (v : Half) (s : Synth R n) :
    noteOn c a v s = s := by
  rw [noteOn, noteOperand, if_neg (by omega)]

theorem noteOff_of_reservedNote {a : BitVec 8} (ha : 128 ≤ a.toNat) (s : Synth R n) : noteOff a s = s := by
  rw [noteOff, noteOperand, if_neg (by omega)]

theorem presetField_of_reservedIndex {a : BitVec 8} (ha : 15 ≤ a.toNat) (v : Half) (s : Synth R n) :
    presetField a v s = s := dif_neg (Nat.not_lt.mpr ha)

/-- Each encoding of R89's table changes nothing: three select no row, and the others select a row whose command
ignores the operand. -/
theorem command_of_reserved [NeZero n] (c : Config R n) {w : Word} (s : Synth R n)
    (h : 9 ≤ (opField w).toNat ∨
      (opField w = 3 ∧ (aField w).toNat ∉ [0, 1, 2, 3, 8, 10, 11, 12, 13, 14]) ∨
      (opField w = 4 ∧ 20 ≤ (aField w).toNat) ∨
      (opField w = 5 ∧ 15 ≤ (aField w).toNat) ∨
      ((opField w = 1 ∨ opField w = 2) ∧ 128 ≤ (aField w).toNat)) :
    command c (decodeOrNop w) s = s := by
  obtain hop | ⟨hop, ha⟩ | ⟨hop, ha⟩ | ⟨hop, ha⟩ | ⟨hop | hop, ha⟩ := h
  · rw [decodeOrNop_of_error (decode_of_reservedOpcode hop)]; rfl
  · have hw : decode w = decodeCc (aField w) (vField w) := by simp [decode, hop]
    rw [decodeOrNop_of_error (hw.trans (decodeCc_of_reservedId ha _))]; rfl
  · have hw : decode w = decodeSet (aField w) (vField w) := by simp [decode, hop]
    rw [decodeOrNop_of_error (hw.trans (decodeSet_of_reservedId ha _))]; rfl
  · have hw : decode w = .ok (.presetField (aField w) (vField w)) := by simp [decode, hop]
    rw [decodeOrNop_of_ok hw]; exact presetField_of_reservedIndex ha _ s
  · have hw : decode w = .ok (.noteOn (aField w) (vField w)) := by simp [decode, hop]
    rw [decodeOrNop_of_ok hw]; exact noteOn_of_reservedNote c ha _ s
  · have hw : decode w = .ok (.noteOff (aField w)) := by simp [decode, hop]
    rw [decodeOrNop_of_ok hw]; exact noteOff_of_reservedNote ha s

/-- Settles O6: the step is the command of the word, which for these words changes nothing. -/
theorem reservedWordsExecuteAsNop : Obligations.ReservedWordsExecuteAsNop := by
  refine ⟨fun s => rfl, fun s w ws hrst hport hcmd h => ?_⟩
  rw [step_eq_stepWith, stepWith_of_word engine hrst hport hcmd, command_of_reserved engine _ h]
  rfl

/-- Settles O5: a step takes the word at the head of the port, and the machine is the engine at its own record. -/
theorem stepRunsTheDecodedCommand : Obligations.StepRunsTheDecodedCommand := by
  refine ⟨fun s w ws i hrst hport hcmd hw => ?_, exec_eq_command, step_eq_stepWith⟩
  rw [step_eq_stepWith, stepWith_of_word engine hrst hport hcmd, decodeOrNop_of_ok hw, exec_eq_command]
  rfl

/-! ## The hand-off of a sample (R84) -/

theorem stepWith_of_sample [NeZero n] (c : Config R n) {s : Synth R n} {y : Sample} (hrst : s.rst = false)
    (hport : s.smpOut = some y) : stepWith c s = handOff y s := by
  simp [stepWith, hrst, hport]

theorem stepWith_of_quiet [NeZero n] (c : Config R n) {s : Synth R n} (hrst : s.rst = false) (hport : s.smpOut = none)
    (hcmd : s.cmdIn = []) : stepWith c s = s := by
  simp [stepWith, fetch, hrst, hport, hcmd]

theorem handOff_of_ready {s : Synth R n} (h : s.smpReady = true) (y : Sample) :
    handOff y s = { s with smpOut := none, sink := s.sink ++ [y] } := if_pos h

theorem handOff_of_not_ready {s : Synth R n} (h : s.smpReady = false) (y : Sample) : handOff y s = s :=
  if_neg (by simp [h])

/-- Settles O8: the sample on the port is handed off or waits, and with both ports quiet the step is the identity. -/
theorem sampleWaitsForTheSink : Obligations.SampleWaitsForTheSink := by
  intro s hrst
  rw [step_eq_stepWith]
  refine ⟨fun y hport hready => ?_, fun y hport hready => ?_, fun hport hcmd => ?_⟩
  · rw [stepWith_of_sample engine hrst hport, handOff_of_ready hready]
  · rw [stepWith_of_sample engine hrst hport, handOff_of_not_ready hready]
  · rw [stepWith_of_quiet engine hrst hport hcmd]

end Sys2Proof.Machine
end

section
/-! PROOF. O21 to O27: one call of the envelope generator from each state, and runs of calls within a state
(spec/40_envelope.md R112 to R123). -/

namespace Sys2Proof.Machine

/-! ## Tests and orbits -/

/-- An inner test that leaves or stays, turned into one condition to stay. -/
theorem ite_ite_le_eq_ite_and_lt {K : Type} [LinearOrder K] {α : Type} (timed : Prop) [Decidable timed] (x y : K)
    (leave stay : α) :
    (if timed then if x ≤ y then leave else stay else leave) = if timed ∧ y < x then stay else leave := by
  simp only [ite_and, ← not_le, ite_not]

/-- A sequence that `f` maps along for `m` terms is the orbit of its first term that far. -/
theorem iterate_eq_of_orbit {α : Type} {f : α → α} {x : Nat → α} {m : Nat} (h : ∀ k < m, f (x k) = x (k + 1)) :
    f^[m] (x 0) = x m := by
  induction m with
  | zero => rfl
  | succ m ih =>
    rw [Function.iterate_succ_apply', ih fun k hk => h k (hk.trans m.lt_succ_self), h m m.lt_succ_self]

variable {K : Type} [Field K] [LinearOrder K] {n : Nat} {c : Config K n}

/-! ## What one call changes (R114, R116) -/

/-- The fall of one call of the Decay arm: `(1 - target)/(d·RATE)` (R114). -/
def decayFall (c : Config K n) (p : Adsr K) : K := (1 - decayTarget c p) / (p.d * c.rate)

theorem decayFall_nonneg [IsStrictOrderedRing K] {p : Adsr K} (hd : 0 ≤ p.d) (ht : decayTarget c p ≤ 1) :
    0 ≤ decayFall c p :=
  div_nonneg (sub_nonneg.mpr ht) (mul_nonneg hd (Nat.cast_nonneg _))

/-- Before the last of the `m = d·RATE` calls that take Decay from 1 to its target the level is above the target. -/
theorem lt_one_sub_mul_decayFall [IsStrictOrderedRing K] {p : Adsr K} {m : Nat} (hm : p.d * c.rate = m)
    (ht : decayTarget c p < 1) {k : Nat} (hk : k < m) : decayTarget c p < 1 - k * decayFall c p := by
  have hpos : (0 : K) < m := by exact_mod_cast k.zero_le.trans_lt hk
  have hfrac : (k : K) / m < 1 := (div_lt_one hpos).mpr (by exact_mod_cast hk)
  calc decayTarget c p = 1 - 1 * (1 - decayTarget c p) := by ring
    _ < 1 - k / m * (1 - decayTarget c p) := by gcongr
    _ = 1 - k * decayFall c p := by rw [decayFall, hm]; ring

/-- The factor by which a call of the Release arm multiplies the output: `1 - 1/(r·RATE)` (R116). -/
def releaseFactor (c : Config K n) (r : K) : K := 1 - 1 / (r * c.rate)

variable [FloorRing K]

/-! ## One call from each state (R112 to R116)

A call stays in a timed state when the time is positive and the moved output is short of the state's end; every other
call leaves it. -/

theorem envAdvance_idle (hN : c.num.Exact) (out : K) (p : Adsr K) : envAdvance c ⟨.idle, out⟩ p = ⟨.idle, 0⟩ := by
  simp [envAdvance, armIdle, hN.ofRat]

theorem envAdvance_attack (hN : c.num.Exact) (out : K) (p : Adsr K) :
    envAdvance c ⟨.attack, out⟩ p =
      if 0 < p.a ∧ attackOut c out p.a < 1 then ⟨.attack, attackOut c out p.a⟩ else ⟨.decay, 1⟩ := by
  rw [attackOut_eq hN, ← ite_ite_le_eq_ite_and_lt]
  exact armAttack_eq hN ⟨.attack, out⟩ p.a

theorem decayOut_eq_sub_decayFall (hN : c.num.Exact) (out : K) (p : Adsr K) :
    decayOut c out p = out - decayFall c p :=
  decayOut_eq hN out p

theorem envAdvance_decay (hN : c.num.Exact) (out : K) (p : Adsr K) :
    envAdvance c ⟨.decay, out⟩ p =
      if 0 < p.d ∧ decayTarget c p < decayOut c out p then ⟨.decay, decayOut c out p⟩
      else ⟨decayNext c p, decayTarget c p⟩ := by
  rw [decayOut_eq hN, ← ite_ite_le_eq_ite_and_lt]
  exact armDecay_eq hN ⟨.decay, out⟩ p

theorem envAdvance_sustain (hN : c.num.Exact) (out : K) (p : Adsr K) :
    envAdvance c ⟨.sustain, out⟩ p = if p.s = 0 then envAdvance c ⟨.release, out⟩ p else ⟨.sustain, p.s⟩ :=
  armSustain_eq hN ⟨.sustain, out⟩ p

theorem releaseOut_eq (hN : c.num.Exact) (out r : K) : releaseOut c out r = out * releaseFactor c r := by
  rw [releaseFactor, mul_one_sub, mul_one_div]
  simp [releaseOut, hN.sub, hN.div, hN.mul, hN.ofRat]

theorem envAdvance_release (hN : c.num.Exact) (out : K) (p : Adsr K) :
    envAdvance c ⟨.release, out⟩ p =
      if 0 < p.r ∧ 1 / 1000 < releaseOut c out p.r then ⟨.release, releaseOut c out p.r⟩ else ⟨.idle, 0⟩ := by
  rw [releaseOut_eq hN, releaseFactor, mul_one_sub, mul_one_div, ← ite_ite_le_eq_ite_and_lt]
  exact armRelease_eq hN ⟨.release, out⟩ p.r

/-! ## Equal steps, and the state after Decay (R113, R114) -/

theorem attackOut_ramp (hN : c.num.Exact) (level a : K) (k : Nat) :
    attackOut c (level + k / (a * c.rate)) a = level + ((k : K) + 1) / (a * c.rate) := by
  rw [attackOut_eq hN, add_assoc, ← add_div]

theorem decayOut_ramp (hN : c.num.Exact) (level : K) (p : Adsr K) (k : Nat) :
    decayOut c (level - k * decayFall c p) p = level - ((k : K) + 1) * decayFall c p := by
  rw [decayOut_eq_sub_decayFall hN]; ring

theorem decayNext_ne_decay (hN : c.num.Exact) (p : Adsr K) : decayNext c p ≠ .decay := by
  rw [decayNext_eq hN]; split <;> nofun

/-- Settles O21: with a time of 0 the first call leaves the state. -/
theorem zeroTimesResolveInOneAdvance : Obligations.ZeroTimesResolveInOneAdvance := by
  rintro K _ _ _ _ n c ⟨_, out⟩ p hN
  refine ⟨?_, ?_, ?_, ?_⟩
  · rintro ⟨⟩ ha
    rw [envAdvance_attack hN, if_neg (by simp [ha])]
  · rintro ⟨⟩ hd hs
    rw [envAdvance_decay hN, if_neg (by simp [hd]), decayNext_eq hN, decayTarget_eq hN, if_pos hs, if_pos hs]
  · rintro ⟨⟩ hd hs
    have hs' : ¬0 < p.s := hs.not_gt
    rw [envAdvance_decay hN, if_neg (by simp [hd]), decayNext_eq hN, decayTarget_eq hN, if_neg hs', if_neg hs']
  · rintro ⟨⟩ hr
    rw [envAdvance_release hN, if_neg (by simp [hr])]

/-- Settles O25: the Idle and the Sustain arm, and the two events in Idle. -/
theorem sustainHoldsOrReleases : Obligations.SustainHoldsOrReleases := by
  intro K _ _ _ _ n c p level hN
  refine ⟨⟨envAdvance_idle hN level p, rfl, rfl⟩, fun hs => ?_, fun hs => ?_⟩
  · rw [envAdvance_sustain hN, if_neg hs]
  · rw [envAdvance_sustain hN, if_pos hs]

/-- Settles O26, from the range lemma of each of the three operations. -/
theorem envelopesStayInRange : Obligations.EnvelopesStayInRange :=
  fun _ _ _ _ _ _ _ e _ hc hp he => ⟨envAdvance_ok hc hp he, envTrigger_ok hc.exact e, envRelease_ok he⟩

/-! ## The direction within one state (R123) -/

section Ordered

variable [IsStrictOrderedRing K]

theorem le_attackOut (hN : c.num.Exact) (out : K) {a : K} (ha : 0 ≤ a) : out ≤ attackOut c out a := by
  rw [attackOut_eq hN]
  exact le_add_of_nonneg_right (by positivity)

theorem decayOut_le (hc : c.Legal) (out : K) {p : Adsr K} (hp : p.Ok) : decayOut c out p ≤ out := by
  rw [decayOut_eq_sub_decayFall hc.exact]
  exact sub_le_self _ (decayFall_nonneg hp.d.1 (decayTarget_ok hc hp).2)

theorem releaseOut_le (hN : c.num.Exact) {out r : K} (hout : 0 ≤ out) (hr : 0 ≤ r) : releaseOut c out r ≤ out := by
  rw [releaseOut_eq hN, releaseFactor]
  exact mul_le_of_le_one_right hout (sub_le_self _ (by positivity))

end Ordered

/-- Settles O27: a call that stays in its state took the arm's moving branch, whose output goes one way. -/
theorem envelopesAreMonotone : Obligations.EnvelopesAreMonotone := by
  rintro K _ _ _ _ n c ⟨_, out⟩ p hc hp he hstay
  have hout : 0 ≤ out := he.out.1
  refine ⟨?_, ?_, ?_⟩
  · rintro ⟨⟩
    rw [envAdvance_attack hc.exact] at hstay ⊢
    split_ifs at hstay ⊢
    exact le_attackOut hc.exact out hp.a.1
  · rintro ⟨⟩
    rw [envAdvance_decay hc.exact] at hstay ⊢
    split_ifs at hstay ⊢
    · exact decayOut_le hc out hp
    · exact absurd hstay (decayNext_ne_decay hc.exact p)
  · rintro ⟨⟩
    rw [envAdvance_release hc.exact] at hstay ⊢
    split_ifs at hstay ⊢
    exact releaseOut_le hc.exact hout hp.r.1

/-! ## Runs of calls -/

/-! ### Attack (R113) -/

theorem attack_iterate [IsStrictOrderedRing K] (hN : c.num.Exact) {p : Adsr K} (ha : 0 < p.a) {level : K} {m : Nat}
    (h : level + m / (p.a * c.rate) < 1) :
    (fun e => envAdvance c e p)^[m] ⟨.attack, level⟩ = ⟨.attack, level + m / (p.a * c.rate)⟩ := by
  have horbit := iterate_eq_of_orbit (f := fun e => envAdvance c e p) (m := m)
    (x := fun k => ⟨.attack, level + (k : K) / (p.a * c.rate)⟩) fun k hk => by
      have hk' : (k : K) + 1 ≤ m := by exact_mod_cast hk
      have hlt : level + ((k : K) + 1) / (p.a * c.rate) < 1 := lt_of_le_of_lt (by gcongr) h
      simp only [envAdvance_attack hN, attackOut_ramp hN, Nat.cast_add_one, if_pos (And.intro ha hlt)]
  simpa using horbit

/-- Settles O22: the linear run of Attack, and the call that ends it. -/
theorem attackRisesLinearly : Obligations.AttackRisesLinearly := by
  intro K _ _ _ _ n c e p hN _ ha
  refine ⟨envTrigger_eq hN e, fun level m hm => ⟨attack_iterate hN ha hm, fun hend => ?_⟩⟩
  rw [Function.iterate_succ_apply', attack_iterate hN ha hm, envAdvance_attack hN, attackOut_ramp hN,
    if_neg fun h => h.2.not_ge hend]

/-! ### Decay (R114) -/

theorem decay_iterate (hN : c.num.Exact) {p : Adsr K} (hd : 0 < p.d) {level : K} {m : Nat}
    (h : ∀ k : Nat, 1 ≤ k → k ≤ m → decayTarget c p < level - k * decayFall c p) :
    (fun e => envAdvance c e p)^[m] ⟨.decay, level⟩ = ⟨.decay, level - m * decayFall c p⟩ := by
  have horbit := iterate_eq_of_orbit (f := fun e => envAdvance c e p) (m := m)
    (x := fun k => ⟨.decay, level - (k : K) * decayFall c p⟩) fun k hk => by
      have hlt := h (k + 1) k.succ_pos hk
      rw [Nat.cast_add_one] at hlt
      simp only [envAdvance_decay hN, decayOut_ramp hN, Nat.cast_add_one, if_pos (And.intro hd hlt)]
  simpa using horbit

/-- The call after a run of Decay that reaches the target leaves the state, at the target. -/
theorem decay_iterate_succ (hN : c.num.Exact) {p : Adsr K} (hd : 0 < p.d) {level : K} {m : Nat}
    (h : ∀ k : Nat, 1 ≤ k → k ≤ m → decayTarget c p < level - k * decayFall c p)
    (hend : level - ((m : K) + 1) * decayFall c p ≤ decayTarget c p) :
    (fun e => envAdvance c e p)^[m + 1] ⟨.decay, level⟩ = ⟨decayNext c p, decayTarget c p⟩ := by
  rw [Function.iterate_succ_apply', decay_iterate hN hd h, envAdvance_decay hN, decayOut_ramp hN,
    if_neg fun h => h.2.not_ge hend]

/-- With a whole number `m` of calls in `d·RATE`, call `m` from 1 leaves Decay, at the target. -/
theorem decay_iterate_whole [IsStrictOrderedRing K] (hN : c.num.Exact) {p : Adsr K} (hd : 0 < p.d) {m : Nat}
    (hpos : 0 < m) (hm : p.d * c.rate = m) (ht : decayTarget c p < 1) :
    (fun e => envAdvance c e p)^[m] ⟨.decay, 1⟩ = ⟨decayNext c p, decayTarget c p⟩ := by
  obtain ⟨m, rfl⟩ := Nat.exists_eq_add_one_of_ne_zero hpos.ne'
  refine decay_iterate_succ hN hd (fun k _ hk => lt_one_sub_mul_decayFall hm ht (Nat.lt_succ_of_le hk)) (le_of_eq ?_)
  rw [decayFall, hm, ← Nat.cast_add_one, mul_div_cancel₀ _ (Nat.cast_ne_zero.mpr hpos.ne'), sub_sub_cancel]

/-- Settles O23: the linear run of Decay and the call that ends it, for a whole number of calls, and the entry at or
below the target. -/
theorem decayFallsLinearly : Obligations.DecayFallsLinearly := by
  intro K _ _ _ _ n c p level hN hd
  rw [← decayTarget_eq hN, ← decayNext_eq hN]
  refine ⟨fun m h => ⟨decay_iterate hN hd h, decay_iterate_succ hN hd h⟩, fun m hpos hm ht => ⟨fun k hk => ?_, ?_⟩,
    fun hl ht => ?_⟩
  · rw [← hm]
    exact decay_iterate hN hd fun j _ hj => lt_one_sub_mul_decayFall hm ht (hj.trans_lt hk)
  · exact decay_iterate_whole hN hd hpos hm ht
  · have hend : decayOut c level p ≤ decayTarget c p :=
      decayOut_eq_sub_decayFall hN level p ▸ (sub_le_self _ (decayFall_nonneg hd.le ht)).trans hl
    rw [envAdvance_decay hN, if_neg fun h => h.2.not_ge hend]

/-! ### Release (R116) -/

theorem release_iterate (hN : c.num.Exact) {p : Adsr K} (hr : 0 < p.r) {level : K} {m : Nat}
    (h : ∀ k, 1 ≤ k → k ≤ m → 1 / 1000 < level * releaseFactor c p.r ^ k) :
    (fun e => envAdvance c e p)^[m] ⟨.release, level⟩ = ⟨.release, level * releaseFactor c p.r ^ m⟩ := by
  have horbit := iterate_eq_of_orbit (f := fun e => envAdvance c e p) (m := m)
    (x := fun k => ⟨.release, level * releaseFactor c p.r ^ k⟩) fun k hk => by
      simp only [envAdvance_release hN, releaseOut_eq hN, mul_assoc, ← pow_succ,
        if_pos (And.intro hr (h (k + 1) k.succ_pos hk))]
  simpa using horbit

/-- Settles O24: the geometric run of Release, and the call that ends it. -/
theorem releaseFallsGeometrically : Obligations.ReleaseFallsGeometrically := by
  intro K _ _ _ _ n c p level m hN _ hr q h
  refine ⟨release_iterate hN hr h, fun hend => ?_⟩
  rw [Function.iterate_succ_apply', release_iterate hN hr h, envAdvance_release hN, releaseOut_eq hN, mul_assoc,
    ← pow_succ, if_neg fun h => h.2.not_ge hend]

end Sys2Proof.Machine
end

section
/-! PROOF. O28 and O29: the four waveforms on `[0,1)`, and the phase after `m` steps at one frequency
(spec/41_oscillator.md R132 to R141). -/

namespace Sys2Proof.Machine

/-! ## The waveforms (R132 to R138) -/

/-- Settles O28: the formulas of the exact waveforms, and the range of each. -/
theorem waveformsStayInRange : Obligations.WaveformsStayInRange := by
  intro K _ _ _ _ n c p hc hp
  exact ⟨rfl, wave_square hc.exact p, wave_triangle hc.exact p, wave_sawtooth hc.exact p,
    fun w => wave_signalOk hc w hp⟩

/-! ## The phase accumulator (R136, R141) -/

variable {K : Type} [Field K] [LinearOrder K] [IsStrictOrderedRing K] [FloorRing K] {n : Nat} {c : Config K n}

/-- A step from a phase reduced modulo 1 is the step from the unreduced one: the whole part that was cut off is whole
after the step too. -/
theorem phaseStep_fract (hN : c.num.Exact) (x f : K) :
    phaseStep c (Int.fract x) f = Int.fract (x + f / c.rate) := by
  have hwhole : Int.fract x + f / c.rate - (x + f / c.rate) = ((-⌊x⌋ : ℤ) : K) := by
    rw [← Int.self_sub_floor]; push_cast; ring
  rw [phaseStep_eq hN, Int.fract_eq_fract]
  exact ⟨_, hwhole⟩

/-- The orbit of a reduced phase: each of the `m` steps adds `f/RATE` before the reduction. -/
theorem phaseStep_iterate_fract (hN : c.num.Exact) (x f : K) (m : Nat) :
    (fun p => phaseStep c p f)^[m] (Int.fract x) = Int.fract (x + m * (f / c.rate)) := by
  have horbit := iterate_eq_of_orbit (f := fun p => phaseStep c p f) (m := m)
    (x := fun k => Int.fract (x + (k : K) * (f / c.rate))) fun k _ => by
      simp only [phaseStep_fract hN, Nat.cast_add_one, add_one_mul, add_assoc]
  simpa using horbit

theorem phaseStep_iterate (hN : c.num.Exact) {phase : K} (h : PhaseOk phase) (f : K) (m : Nat) :
    (fun p => phaseStep c p f)^[m] phase = Int.fract (phase + m * (f / c.rate)) := by
  have hfract : Int.fract phase = phase := Int.fract_eq_self.mpr h
  simpa only [hfract] using phaseStep_iterate_fract hN phase f m

/-- Settles O29: the closed form of the orbit is in `[0,1)`, and drops a whole number of turns. -/
theorem phaseAccumulates : Obligations.PhaseAccumulates := by
  intro K _ _ _ _ n c phase f m hN h
  rw [phaseStep_iterate hN h]
  refine ⟨rfl, ⟨Int.fract_nonneg _, Int.fract_lt_one _⟩, fun ⟨k, hk⟩ => ?_⟩
  rw [hk, Int.fract_add_intCast]
  exact Int.fract_eq_self.mpr h

end Sys2Proof.Machine
end

section
/-! PROOF. O59: every command but TICK leaves the filter, the LFO, the sample port and the oscillator phases; NOTE_ON and
NOTE_OFF may permute the voice records (spec/41_oscillator.md R142, spec/44_filter.md R191, spec/45_lfo.md R207,
spec/42_voice_pool.md R158). -/

namespace Sys2Proof.Machine

variable {R : Type} {n : Nat}

/-! ## What the preset commands write (R295, R296) -/

theorem presetField_frame (a : BitVec 8) (v : Half) (s : Synth R n) :
    presetField a v s = { s with stg := (presetField a v s).stg, stgv := (presetField a v s).stgv } := by
  unfold presetField; split <;> rfl

theorem presetCommit_frame (c : Config R n) (s : Synth R n) :
    presetCommit c s =
      { s with pool := (presetCommit c s).pool, params := (presetCommit c s).params,
               stgv := (presetCommit c s).stgv, presetErr := (presetCommit c s).presetErr } := by
  unfold presetCommit; split <;> rfl

/-! ## The phases of a voice -/

/-- The phases of a voice's three oscillators. -/
def oscPhases (v : Voice R) : R × R × R := (v.osc0.phase, v.osc1.phase, v.osc2.phase)

@[simp] theorem oscPhases_assignVoice (c : Config R n) (det : R) (m : Int) (vel : Nat) (v : Voice R) :
    oscPhases (assignVoice c det m vel v) = oscPhases v := rfl

@[simp] theorem oscPhases_forgetVoice (N : NumOps R) (v : Voice R) : oscPhases (forgetVoice N v) = oscPhases v := rfl

@[simp] theorem oscPhases_detuneVoice (c : Config R n) (det : R) (v : Voice R) :
    oscPhases (detuneVoice c det v) = oscPhases v := by
  simp [oscPhases]

@[simp] theorem oscPhases_reclaimVoice (N : NumOps R) (v : Voice R) : oscPhases (reclaimVoice N v) = oscPhases v := by
  rw [reclaimVoice_eq]; rfl

@[simp] theorem oscPhases_releaseVoice (arpEn : Bool) (v : Voice R) : oscPhases (releaseVoice arpEn v) = oscPhases v := by
  cases arpEn <;> rfl

/-! ## The phases of the pool, slot by slot -/

/-- The oscillator phases of the pool, slot by slot. -/
def poolPhases (p : Pool R n) : Vector (R × R × R) n := p.map oscPhases

theorem poolPhases_map {f : Voice R → Voice R} (h : ∀ v, oscPhases (f v) = oscPhases v) (p : Pool R n) :
    poolPhases (p.map f) = poolPhases p := by
  have hcomp : oscPhases ∘ f = oscPhases := funext h
  rw [poolPhases, Vector.map_map, hcomp, poolPhases]

theorem poolPhases_set {p : Pool R n} {i : Fin n} {v : Voice R} (h : oscPhases v = oscPhases p[i]) :
    poolPhases (p.set i v) = poolPhases p := by
  simp [poolPhases, Vector.map_set, h, ← Vector.getElem_map]

/-- `apply_detune` writes frequencies alone (R174). -/
theorem poolPhases_applyDetune (c : Config R n) (s : Synth R n) :
    poolPhases (applyDetune c s).pool = poolPhases s.pool :=
  poolPhases_map (oscPhases_detuneVoice c _) s.pool

/-- The mode switch forgets the notes and keeps the oscillators (R218). -/
theorem poolPhases_arpModeSwitch [NeZero n] (c : Config R n) (b : Bool) (s : Synth R n) :
    poolPhases (arpModeSwitch c b s).pool = poolPhases s.pool := by
  unfold arpModeSwitch
  split
  · rfl
  · exact poolPhases_map (oscPhases_forgetVoice c.num) s.pool

theorem poolPhases_writeParam [NeZero n] (c : Config R n) (w : ParamWrite R) (s : Synth R n) :
    poolPhases (writeParam c w s).pool = poolPhases s.pool := by
  cases w with
  | arpEn b => exact poolPhases_arpModeSwitch c b s
  | detune x => exact poolPhases_applyDetune c _
  | lfoTarget t => exact poolPhases_applyDetune c _
  | _ => rfl

theorem poolPhases_presetCommit (c : Config R n) (s : Synth R n) :
    poolPhases (presetCommit c s).pool = poolPhases s.pool := by
  unfold presetCommit
  split
  · exact poolPhases_applyDetune c _
  · rfl

/-- The reclaim pass cuts envelopes alone (R147). -/
theorem poolPhases_reclaim (c : Config R n) (s : Synth R n) : poolPhases (reclaim c s).pool = poolPhases s.pool := by
  unfold reclaim
  split
  · rfl
  · exact poolPhases_map (oscPhases_reclaimVoice c.num) s.pool

/-- No command but TICK, NOTE_ON and NOTE_OFF moves a phase from its slot (R142, R254). -/
theorem poolPhases_command [NeZero n] (c : Config R n) {i : Instr} (htick : i ≠ .tick) (hon : ∀ a v, i ≠ .noteOn a v)
    (hoff : ∀ a, i ≠ .noteOff a) (s : Synth R n) : poolPhases (command c i s).pool = poolPhases s.pool := by
  obtain rfl | ⟨w, hw⟩ | ⟨a, v, rfl⟩ | ⟨a, rfl⟩ | rfl | ⟨a, v, rfl⟩ | rfl | rfl := command_cases c.num i
  · rfl
  · rw [command_eq_writeParam c s hw]; exact poolPhases_writeParam c w s
  · exact absurd rfl (hon a v)
  · exact absurd rfl (hoff a)
  · exact absurd rfl htick
  · show poolPhases (presetField a v s).pool = poolPhases s.pool
    rw [presetField_frame]
  · exact poolPhases_presetCommit c s
  · rfl

/-! ## The phases of the pool as a multiset -/

/-- Two pools have the same oscillator phases, in some order. -/
def SamePhases (p q : Pool R n) : Prop := List.Perm (q.toList.map oscPhases) (p.toList.map oscPhases)

theorem samePhases_of_poolPhases_eq {p q : Pool R n} (h : poolPhases q = poolPhases p) : SamePhases p q := by
  have hlist := congrArg Vector.toList h
  simp only [poolPhases, Vector.toList_map] at hlist
  exact List.Perm.of_eq hlist

theorem SamePhases.poolSort {p q : Pool R n} (h : SamePhases p q) : SamePhases p (poolSort q) :=
  ((sortedVoices_perm q).map oscPhases).trans h

/-- What NOTE_ON and NOTE_OFF do at their end: one slot is written, and in arpeggio mode the pool is sorted (R158). -/
theorem samePhases_set_sorted {p q : Pool R n} (hq : poolPhases q = poolPhases p) {i : Fin n} {v : Voice R}
    (hv : oscPhases v = oscPhases q[i]) (arpEn : Bool) :
    SamePhases p (if arpEn = true then poolSort (q.set i v) else q.set i v) := by
  have hset : SamePhases p (q.set i v) := samePhases_of_poolPhases_eq ((poolPhases_set hv).trans hq)
  split
  · exact hset.poolSort
  · exact hset

/-- Assignment writes no phase (R150). -/
theorem samePhases_noteOn (c : Config R n) (a : BitVec 8) (v : Half) (s : Synth R n) :
    SamePhases s.pool (noteOn c a v s).pool := by
  obtain ⟨-, h⟩ | ⟨-, -, h⟩ | ⟨i, -, -, -, h⟩ := noteOn_cases c a v s <;> rw [h]
  · exact samePhases_of_poolPhases_eq rfl
  · exact samePhases_of_poolPhases_eq (poolPhases_reclaim c s)
  · rw [assignSlot_eq]
    exact samePhases_set_sorted (poolPhases_reclaim c s) (oscPhases_assignVoice ..) _

theorem samePhases_noteOff (a : BitVec 8) (s : Synth R n) : SamePhases s.pool (noteOff a s).pool := by
  obtain ⟨-, h⟩ | ⟨-, -, h⟩ | ⟨i, -, -, -, h⟩ := noteOff_cases a s <;> rw [h]
  · exact samePhases_of_poolPhases_eq rfl
  · exact samePhases_of_poolPhases_eq rfl
  · rw [releaseSlot_eq]
    exact samePhases_set_sorted rfl (oscPhases_releaseVoice ..) _

theorem samePhases_command [NeZero n] (c : Config R n) {i : Instr} (htick : i ≠ .tick) (s : Synth R n) :
    SamePhases s.pool (command c i s).pool := by
  by_cases hon : ∃ a v, i = .noteOn a v
  · obtain ⟨a, v, rfl⟩ := hon; exact samePhases_noteOn c a v s
  by_cases hoff : ∃ a, i = .noteOff a
  · obtain ⟨a, rfl⟩ := hoff; exact samePhases_noteOff a s
  · exact samePhases_of_poolPhases_eq
      (poolPhases_command c htick (fun a v h => hon ⟨a, v, h⟩) (fun a h => hoff ⟨a, h⟩) s)

/-! ## The filter and the LFO -/

/-- Two states agree in the filter and the LFO. -/
structure SameFilterAndLfo (s t : Synth R n) : Prop where
  flt : t.flt = s.flt
  lfo : t.lfo = s.lfo

/-- Only a TICK writes the filter or the LFO (R191, R207). -/
theorem sameFilterAndLfo_command [NeZero n] (c : Config R n) {i : Instr} (htick : i ≠ .tick) (s : Synth R n) :
    SameFilterAndLfo s (command c i s) := by
  obtain rfl | ⟨w, hw⟩ | ⟨a, v, rfl⟩ | ⟨a, rfl⟩ | rfl | ⟨a, v, rfl⟩ | rfl | rfl := command_cases c.num i
  · exact ⟨rfl, rfl⟩
  · rw [command_eq_writeParam c s hw, writeParam_frame]; exact ⟨rfl, rfl⟩
  · show SameFilterAndLfo s (noteOn c a v s)
    rw [noteOn_frame]; exact ⟨rfl, rfl⟩
  · show SameFilterAndLfo s (noteOff a s)
    rw [noteOff_frame]; exact ⟨rfl, rfl⟩
  · exact absurd rfl htick
  · show SameFilterAndLfo s (presetField a v s)
    rw [presetField_frame]; exact ⟨rfl, rfl⟩
  · show SameFilterAndLfo s (presetCommit c s)
    rw [presetCommit_frame]; exact ⟨rfl, rfl⟩
  · exact ⟨rfl, rfl⟩

/-- Settles O59: the filter and the LFO, the samples, and the phases of the pool, as a multiset and slot by slot. -/
theorem onlyTickMovesPhasesAndFilter : Obligations.OnlyTickMovesPhasesAndFilter := by
  intro i s t ht htick
  rw [exec_eq_command] at ht
  cases ht
  have hregs := sameFilterAndLfo_command engine htick s.toSynth
  have hsamples := sameSamples_command engine htick s.toSynth
  exact ⟨hregs.flt, hregs.lfo, hsamples.smpOut, hsamples.sink, samePhases_command engine htick s.toSynth,
    fun hon hoff => poolPhases_command engine htick hon hoff s.toSynth⟩

end Sys2Proof.Machine
end

section
/-! PROOF. O38: the sort keeps the order of the records of equal note (spec/42_voice_pool.md R158, R159). That it permutes
the records and orders them by note is proved above. -/

namespace Sys2Proof.Machine

variable {R : Type} {n : Nat}

/-- Insertion into an ascending list puts the record behind all those of its note (R158, pass 1). -/
theorem filter_note_insertByNote (m : Int) (x : Voice R) {vs : List (Voice R)}
    (h : vs.Pairwise fun v w => v.note ≤ w.note) :
    (insertByNote x vs).filter (fun v => decide (v.note = m)) = (vs ++ [x]).filter fun v => decide (v.note = m) := by
  induction vs with
  | nil => rfl
  | cons y ys ih =>
    obtain ⟨hy, hys⟩ := List.pairwise_cons.mp h
    simp only [insertByNote]
    split
    next hlt =>
      by_cases hx : x.note = m
      · have hnone : (y :: ys).filter (fun v => decide (v.note = m)) = [] := by
          have hgt : ∀ v ∈ y :: ys, m < v.note := by
            simpa [← hx, hlt] using fun v hv => hlt.trans_le (hy v hv)
          simpa [List.filter_eq_nil_iff] using fun v hv => (hgt v hv).ne'
        rw [List.filter_append, hnone, List.filter_cons, hnone]; simp [hx]
      · simp [List.filter_append, List.filter_cons, hx]
    next => rw [List.cons_append, List.filter_cons, List.filter_cons, ih hys]

theorem sortPass_concat (vs : List (Voice R)) (x : Voice R) : sortPass (vs ++ [x]) = insertByNote x (sortPass vs) := by
  simp [sortPass]

/-- Pass 1 is stable. -/
theorem filter_note_sortPass (m : Int) (vs : List (Voice R)) :
    (sortPass vs).filter (fun v => decide (v.note = m)) = vs.filter fun v => decide (v.note = m) := by
  induction vs using List.reverseRecOn with
  | nil => rfl
  | append_singleton vs x ih =>
    rw [sortPass_concat, filter_note_insertByNote m x (pairwise_sortPass vs), List.filter_append, ih,
      List.filter_append]

/-- Pass 2 is stable: the records of one note are all assigned or all unassigned. -/
theorem filter_note_tailPass (m : Int) (vs : List (Voice R)) :
    (tailPass vs).filter (fun v => decide (v.note = m)) = vs.filter fun v => decide (v.note = m) := by
  rw [tailPass, List.filter_append, List.filter_filter, List.filter_filter]
  by_cases hm : m = -1
  · subst hm; simp
  · have htail : ∀ v : Voice R, ¬(v.note = m ∧ v.note = -1) := fun v ⟨h, h'⟩ => hm (h.symm.trans h')
    have hhead : ∀ v : Voice R, (v.note = m ∧ v.note ≠ -1) ↔ v.note = m :=
      fun v => and_iff_left_of_imp fun h => h.trans_ne hm
    simp only [← Bool.decide_and, htail, hhead]; simp

/-- Settles O38: both passes are stable; the permutation and the order are lemmas about the two passes. -/
theorem sortIsStableAndAscending : Obligations.SortIsStableAndAscending := fun _ _ p =>
  ⟨sortedVoices_perm p, fun _ _ hij hj => poolSort_ascending p hij hj, fun m => by
    rw [toList_poolSort, sortedVoices, filter_note_tailPass, filter_note_sortPass]⟩

end Sys2Proof.Machine
end

section
/-! PROOF. O32 to O37: what NOTE_ON and NOTE_OFF do in each mode, and when they do nothing (spec/42_voice_pool.md R146 to
R158). Each is shown for every configuration first; the machine is the engine at its own record. -/

namespace Sys2Proof.Machine

variable {R : Type} {n : Nat}

/-! ## Free, sounding, and the reclaim pass (R146, R147, R154) -/

/-- The least slot that passes a test is one slot. -/
theorem leastSlot_unique {q : Voice R → Bool} {p : Pool R n} {i j : Fin n} (hi : q p[i] = true)
    (hlti : ∀ k < i, q p[k] = false) (hj : q p[j] = true) (hltj : ∀ k < j, q p[k] = false) : i = j :=
  Option.some.inj ((firstSlot_eq_some.mpr ⟨hi, hlti⟩).symm.trans (firstSlot_eq_some.mpr ⟨hj, hltj⟩))

theorem isFree_arp (v : Voice R) : isFree true v = !v.pressed := rfl

theorem isFree_nonarp (v : Voice R) : isFree false v = decide (v.env.state = .idle) := rfl

/-- After the reclaim pass the free voices are those that were Idle or in Release. -/
theorem isFree_reclaimVoice (N : NumOps R) (v : Voice R) :
    isFree false (reclaimVoice N v) = decide (v.env.state = .idle ∨ v.env.state = .release) := by
  rw [reclaimVoice_eq]
  cases h : v.env.state <;> simp [isFree_nonarp, h]

theorem holdsNote_arp (m : Int) (v : Voice R) : holdsNote true m v = true ↔ v.note = m ∧ v.pressed = true := by
  simp [holdsNote, isSounding]

theorem holdsNote_nonarp (m : Int) (v : Voice R) :
    holdsNote false m v = true ↔ v.note = m ∧ ¬(v.env.state = .idle ∨ v.env.state = .release) := by
  cases h : v.env.state <;> simp [holdsNote, isSounding, h]

theorem reclaimVoice_of_not_release {N : NumOps R} {v : Voice R} (h : v.env.state ≠ .release) : reclaimVoice N v = v :=
  if_neg h

/-- With no release tail the reclaim pass changes nothing. -/
theorem reclaim_of_no_release {c : Config R n} {s : Synth R n} (h : ∀ i : Fin n, s.pool[i].env.state ≠ .release) :
    reclaim c s = s := by
  unfold reclaim
  split
  · rfl
  · have hp : s.pool.map (reclaimVoice c.num) = s.pool :=
      Vector.ext fun i hi => (Vector.getElem_map ..).trans (reclaimVoice_of_not_release (h ⟨i, hi⟩))
    rw [hp]; rfl

/-- Assignment overwrites all that the reclaim pass wrote. -/
@[simp] theorem assignVoice_reclaimVoice (c : Config R n) (det : R) (m : Int) (vel : Nat) (v : Voice R) :
    assignVoice c det m vel (reclaimVoice c.num v) = assignVoice c det m vel v := by
  unfold reclaimVoice; split <;> rfl

/-! ## NOTE_ON -/

/-- NOTE_ON assigns the first voice that is free after the reclaim pass (R148, R149). -/
theorem noteOn_of_firstFree {c : Config R n} {a : BitVec 8} (v : Half) {s : Synth R n} {i : Fin n} (ha : a.toNat ≤ 127)
    (hi : isFree s.params.arpEn (reclaim c s).pool[i] = true)
    (hlt : ∀ j < i, isFree s.params.arpEn (reclaim c s).pool[j] = false) :
    noteOn c a v s = assignSlot c i a.toNat (velocityOperand v) (reclaim c s) := by
  obtain ⟨ha', -⟩ | ⟨-, hnone, -⟩ | ⟨j, -, hj, hltj, heq⟩ := noteOn_cases c a v s
  · omega
  · exact absurd hi (Bool.eq_false_iff.mp (hnone i))
  · rwa [leastSlot_unique hi hlt hj hltj]

/-- With no release tail and no free voice, NOTE_ON does nothing (R151). -/
theorem noteOn_of_full {c : Config R n} (a : BitVec 8) (v : Half) {s : Synth R n} (hr : reclaim c s = s)
    (hfull : ∀ i : Fin n, isFree s.params.arpEn s.pool[i] = false) : noteOn c a v s = s := by
  obtain ⟨-, heq⟩ | ⟨-, -, heq⟩ | ⟨i, -, hi, -, -⟩ := noteOn_cases c a v s
  · exact heq
  · exact heq.trans hr
  · rw [hr] at hi; exact absurd hi (Bool.eq_false_iff.mp (hfull i))

/-- NOTE_ON in non-arpeggio mode, with the slot that takes the note. -/
theorem noteOn_nonarp_eq {c : Config R n} {a : BitVec 8} (v : Half) {s : Synth R n} {i : Fin n} (ha : a.toNat ≤ 127)
    (harp : s.params.arpEn = false) (hi : s.pool[i].env.state = .idle ∨ s.pool[i].env.state = .release)
    (hlt : ∀ j < i, s.pool[j].env.state ≠ .idle ∧ s.pool[j].env.state ≠ .release) :
    noteOn c a v s =
      (s.setFenv (if s.params.fEnvEn then envTrigger c s.fenv else s.fenv)).setPool
        ((s.pool.map (reclaimVoice c.num)).set i
          (assignVoice c (effectiveDetune s) a.toNat (velocityOperand v) s.pool[i])) := by
  have hfree : ∀ j : Fin n, isFree s.params.arpEn (reclaim c s).pool[j] =
      decide (s.pool[j].env.state = .idle ∨ s.pool[j].env.state = .release) := fun j => by
    rw [reclaim_of_nonarp harp, harp, Synth.setPool_pool, getElem_poolMap, isFree_reclaimVoice]
  rw [noteOn_of_firstFree v ha ((hfree i).trans (decide_eq_true hi))
    fun j hj => (hfree j).trans (decide_eq_false (not_or.mpr (hlt j hj)))]
  rw [reclaim_of_nonarp harp, assignSlot_eq, Synth.setPool_params, harp, if_neg Bool.false_ne_true,
    effectiveDetune_setPool, Synth.setPool_pool, getElem_poolMap, assignVoice_reclaimVoice]
  rfl

/-- NOTE_ON in arpeggio mode, with the slot that takes the note. -/
theorem noteOn_arp_eq {c : Config R n} {a : BitVec 8} (v : Half) {s : Synth R n} {i : Fin n} (ha : a.toNat ≤ 127)
    (harp : s.params.arpEn = true) (hi : s.pool[i].pressed = false) (hlt : ∀ j < i, s.pool[j].pressed = true) :
    noteOn c a v s =
      (s.setFenv (if s.params.fEnvEn then envTrigger c s.fenv else s.fenv)).setPool
        (poolSort (s.pool.set i (assignVoice c (effectiveDetune s) a.toNat (velocityOperand v) s.pool[i]))) := by
  have hfree : ∀ j : Fin n, isFree s.params.arpEn (reclaim c s).pool[j] = !s.pool[j].pressed := fun j => by
    rw [reclaim_of_arp harp, harp, isFree_arp]
  rw [noteOn_of_firstFree v ha ((hfree i).trans (by rw [hi]; rfl)) fun j hj => (hfree j).trans (by rw [hlt j hj]; rfl),
    reclaim_of_arp harp, assignSlot_eq, if_pos harp]

/-! ## NOTE_OFF -/

/-- NOTE_OFF releases the first sounding voice of its note (R153). -/
theorem noteOff_of_firstMatch {a : BitVec 8} {s : Synth R n} {i : Fin n} (ha : a.toNat ≤ 127)
    (hi : holdsNote s.params.arpEn a.toNat s.pool[i] = true)
    (hlt : ∀ j < i, holdsNote s.params.arpEn a.toNat s.pool[j] = false) : noteOff a s = releaseSlot i s := by
  obtain ⟨ha', -⟩ | ⟨-, hnone, -⟩ | ⟨j, -, hj, hltj, heq⟩ := noteOff_cases a s
  · omega
  · exact absurd hi (Bool.eq_false_iff.mp (hnone i))
  · rwa [leastSlot_unique hi hlt hj hltj]

/-- With no sounding voice of its note, NOTE_OFF does nothing. -/
theorem noteOff_of_no_match {a : BitVec 8} {s : Synth R n}
    (h : ∀ i : Fin n, holdsNote s.params.arpEn a.toNat s.pool[i] = false) : noteOff a s = s := by
  obtain ⟨-, heq⟩ | ⟨-, -, heq⟩ | ⟨i, -, hi, -, -⟩ := noteOff_cases a s
  · exact heq
  · exact heq
  · exact absurd hi (Bool.eq_false_iff.mp (h i))

theorem releaseVoice_of_sounding {v : Voice R} (h : v.env.state ≠ .idle) :
    releaseVoice false v = { v with env := ⟨.release, v.env.out⟩ } := by
  rw [releaseVoice, envRelease_eq, if_neg h]; rfl

theorem releaseVoice_arp (v : Voice R) :
    releaseVoice true v =
      { v with note := -1, pressed := false,
               env := if v.env.state = .idle then v.env else ⟨.release, v.env.out⟩ } := by
  rw [releaseVoice, envRelease_eq]; rfl

/-- NOTE_OFF in non-arpeggio mode, with the slot that is released. -/
theorem noteOff_nonarp_eq {a : BitVec 8} {s : Synth R n} {i : Fin n} (ha : a.toNat ≤ 127)
    (harp : s.params.arpEn = false) (hnote : s.pool[i].note = a.toNat) (hidle : s.pool[i].env.state ≠ .idle)
    (hrelease : s.pool[i].env.state ≠ .release)
    (hlt : ∀ j < i, s.pool[j].note = a.toNat → s.pool[j].env.state = .idle ∨ s.pool[j].env.state = .release) :
    noteOff a s =
      (s.setFenv (if s.params.fEnvEn then envRelease s.fenv else s.fenv)).setPool
        (s.pool.set i { s.pool[i] with env := ⟨.release, s.pool[i].env.out⟩ }) := by
  have hfirst : noteOff a s = releaseSlot i s := by
    refine noteOff_of_firstMatch ha ?_ fun j hj => ?_ <;> rw [harp]
    · exact (holdsNote_nonarp ..).mpr ⟨hnote, not_or.mpr ⟨hidle, hrelease⟩⟩
    · exact Bool.eq_false_iff.mpr fun h =>
        have ⟨hnotej, hsounds⟩ := (holdsNote_nonarp ..).mp h
        hsounds (hlt j hj hnotej)
  rw [hfirst, releaseSlot_eq, harp, if_neg Bool.false_ne_true, releaseVoice_of_sounding hidle]

/-- NOTE_OFF in arpeggio mode, with the slot that is released. -/
theorem noteOff_arp_eq {a : BitVec 8} {s : Synth R n} {i : Fin n} (ha : a.toNat ≤ 127) (harp : s.params.arpEn = true)
    (hnote : s.pool[i].note = a.toNat) (hpressed : s.pool[i].pressed = true)
    (hlt : ∀ j < i, s.pool[j].note = a.toNat → s.pool[j].pressed = false) :
    noteOff a s =
      (s.setFenv (if s.params.fEnvEn then envRelease s.fenv else s.fenv)).setPool
        (poolSort (s.pool.set i { s.pool[i] with
          note := -1, pressed := false,
          env := if s.pool[i].env.state = .idle then s.pool[i].env else ⟨.release, s.pool[i].env.out⟩ })) := by
  have hfirst : noteOff a s = releaseSlot i s := by
    refine noteOff_of_firstMatch ha ?_ fun j hj => ?_ <;> rw [harp]
    · exact (holdsNote_arp ..).mpr ⟨hnote, hpressed⟩
    · exact Bool.eq_false_iff.mpr fun h =>
        have ⟨hnotej, hpressedj⟩ := (holdsNote_arp ..).mp h
        Bool.eq_false_iff.mp (hlt j hj hnotej) hpressedj
  rw [hfirst, releaseSlot_eq, harp, if_pos rfl, releaseVoice_arp]

/-- The filter's envelope after a NOTE_OFF that found a voice (R156). -/
theorem ite_envRelease_eq (b : Bool) (e : Envelope R) :
    (if b then envRelease e else e) = if b ∧ e.state ≠ .idle then ⟨.release, e.out⟩ else e := by
  rw [envRelease_eq]
  cases b <;> by_cases h : e.state = .idle <;> simp [h]

/-! ## What assignment and the reclaim pass write, in exact arithmetic (R147, R148) -/

section Exact

variable {K : Type} [Field K] [LinearOrder K] [FloorRing K]

theorem reclaimVoice_eq_exact {N : NumOps K} (hN : N.Exact) (v : Voice K) :
    reclaimVoice N v = { v with env := if v.env.state = .release then ⟨.idle, 0⟩ else v.env } := by
  rw [reclaimVoice_eq, hN.ofRat, Rat.cast_zero]

variable [CharZero K] {c : Config K n}

theorem assignVoice_vel_eq (hN : c.num.Exact) (det : K) (m : Int) (v : Half) (w : Voice K) :
    (assignVoice c det m (velocityOperand v) w).vel = (max 1 (min v.toNat 127) : Nat) / 127 := by
  rw [assignVoice_vel, velocityLevel_eq hN]; rfl

theorem assignVoice_env_eq (hN : c.num.Exact) (det : K) (m : Int) (vel : Nat) (w : Voice K) :
    (assignVoice c det m vel w).env = ⟨.attack, 1 / 1000⟩ := envTrigger_eq hN w.env

/-- The filter's envelope after a NOTE_ON that found a voice (R156). -/
theorem ite_envTrigger_eq (hN : c.num.Exact) (b : Bool) (e : Envelope K) :
    (if b then envTrigger c e else e) = if b then ⟨.attack, 1 / 1000⟩ else e := by
  rw [envTrigger_eq hN]

end Exact

/-! ## The machine -/

theorem exec_eq_self {i : Instr} {s : State} (h : command engine i s.toSynth = s.toSynth) : exec i s = .next s := by
  rw [exec_eq_command, h]

/-- Settles O32: the pool is reclaimed and then written at the first slot that was Idle or in Release. -/
theorem noteOnTakesTheFirstFreeVoice : Obligations.NoteOnTakesTheFirstFreeVoice := by
  intro s a v i ha harp hi hlt
  have hN := engine_exact
  have heq := noteOn_nonarp_eq (c := engine) v ha harp hi hlt
  have hpool := congrArg Synth.pool heq
  rw [Synth.setPool_pool] at hpool
  have hslot : (noteOn engine a v s.toSynth).pool[i] =
      assignVoice engine (effectiveDetune s.toSynth) a.toNat (velocityOperand v) s.pool[i] := by
    rw [hpool, getElem_poolSet, if_pos rfl]
  have hother : ∀ j ≠ i, (noteOn engine a v s.toSynth).pool[j] = reclaimVoice engine.num s.pool[j] := fun j hj => by
    rw [hpool, getElem_poolSet, if_neg hj.symm, getElem_poolMap]
  refine ⟨⟨noteOn engine a v s.toSynth⟩, exec_eq_command .., ?_⟩
  dsimp only
  rw [hslot]
  exact ⟨assignVoice_note .., assignVoice_pressed .., assignVoice_vel_eq hN .., assignVoice_env_eq hN ..,
    assignVoice_tuned hN .., assignVoice_phase0 .., assignVoice_phase1 .., assignVoice_phase2 ..,
    fun j hj => (hother j hj).trans (reclaimVoice_eq_exact hN _),
    (congrArg Synth.fenv heq).trans (ite_envTrigger_eq hN ..), congrArg State.mk (noteOn_frame ..)⟩

/-- Settles O33: the record of the first slot not pressed is written, then the pool is sorted. -/
theorem noteOnInArpeggioModeSorts : Obligations.NoteOnInArpeggioModeSorts := by
  intro s a v i ha harp hi hlt
  have hN := engine_exact
  have heq := noteOn_arp_eq (c := engine) v ha harp hi hlt
  exact ⟨⟨noteOn engine a v s.toSynth⟩,
    assignVoice engine (effectiveDetune s.toSynth) a.toNat (velocityOperand v) s.pool[i], exec_eq_command ..,
    congrArg Synth.pool heq, assignVoice_note .., assignVoice_pressed .., assignVoice_vel_eq hN ..,
    assignVoice_env_eq hN .., assignVoice_tuned hN .., assignVoice_phase0 .., assignVoice_phase1 ..,
    assignVoice_phase2 .., (congrArg Synth.fenv heq).trans (ite_envTrigger_eq hN ..),
    congrArg State.mk (noteOn_frame ..)⟩

/-- Settles O34: nothing is free, and there is no release tail to reclaim. -/
theorem noteOnDropsWhenPoolIsFull : Obligations.NoteOnDropsWhenPoolIsFull := by
  intro s a v h
  refine exec_eq_self ?_
  obtain ⟨harp, hfull⟩ | ⟨harp, hfull⟩ := h
  · refine noteOn_of_full a v (reclaim_of_no_release fun i => (hfull i).2) fun i => ?_
    rw [harp, isFree_nonarp]; exact decide_eq_false (hfull i).1
  · refine noteOn_of_full a v (reclaim_of_arp harp) fun i => ?_
    rw [harp, isFree_arp, hfull i]; rfl

/-- Settles O35: the pool is written at the first slot that holds the note and sounds. -/
theorem noteOffReleasesTheFirstMatch : Obligations.NoteOffReleasesTheFirstMatch := by
  intro s a i ha harp hnote hidle hrelease hlt
  have heq := noteOff_nonarp_eq ha harp hnote hidle hrelease hlt
  have hpool := congrArg Synth.pool heq
  rw [Synth.setPool_pool] at hpool
  refine ⟨⟨noteOff a s.toSynth⟩, exec_eq_command .., ?_, fun j hj => ?_,
    (congrArg Synth.fenv heq).trans (ite_envRelease_eq ..), congrArg State.mk (noteOff_frame ..)⟩
  · dsimp only; rw [hpool, getElem_poolSet, if_pos rfl]
  · dsimp only; rw [hpool, getElem_poolSet, if_neg hj.symm]

/-- Settles O36: the record of the first pressed slot of the note is written, then the pool is sorted. -/
theorem noteOffInArpeggioModeForgets : Obligations.NoteOffInArpeggioModeForgets := by
  intro s a i ha harp hnote hpressed hlt
  have heq := noteOff_arp_eq ha harp hnote hpressed hlt
  exact ⟨⟨noteOff a s.toSynth⟩, exec_eq_command .., congrArg Synth.pool heq,
    (congrArg Synth.fenv heq).trans (ite_envRelease_eq ..), congrArg State.mk (noteOff_frame ..)⟩

/-- Settles O37: in each mode the hypothesis for it says that no voice holds the note and sounds. -/
theorem noteOffWithoutMatchChangesNothing : Obligations.NoteOffWithoutMatchChangesNothing := by
  intro s a hnonarp harp
  refine exec_eq_self (noteOff_of_no_match fun i => Bool.eq_false_iff.mpr fun h => ?_)
  cases hmode : s.params.arpEn with
  | false =>
    rw [hmode, holdsNote_nonarp] at h
    obtain ⟨hnote, hsounds⟩ := h
    exact hsounds (hnonarp hmode i hnote)
  | true =>
    rw [hmode, holdsNote_arp] at h
    obtain ⟨hnote, hpressed⟩ := h
    exact Bool.eq_false_iff.mp (harp hmode i hnote) hpressed

end Sys2Proof.Machine
end

section
/-! PROOF. O20: the exact values of `F` (spec/43_detune_frequency.md R170, R177). The octave is `engine_octave`: a note
twelve higher puts the argument of `POW2` one higher. -/

namespace Sys2Proof.Machine

theorem engine_noteFreq_reference : engine.noteFreq 57 = 440 := by
  rw [engine_noteFreq, Int.cast_ofNat, sub_self, zero_div, pow2_zero, mul_one]

/-- Settles O20: note 57 is the reference, note 69 its octave. -/
theorem octavesAreExact : Obligations.OctavesAreExact := by
  refine ⟨engine_noteFreq_reference, ?_, engine_octave⟩
  calc engine.noteFreq 69 = 2 * engine.noteFreq 57 := engine_octave 57
    _ = 880 := by rw [engine_noteFreq_reference]; norm_num

end Sys2Proof.Machine
end

section
/-! PROOF. O16, O17, O39 and O40: the coefficient of the filter, its step response, the range of its output, and the
sample it gives (spec/44_filter.md R181 to R190, spec/47_mixer_tick.md R233, spec/95_test_vectors.md section 1). -/

namespace Sys2Proof.Machine

variable {n : Nat}

/-! ## What the filter reads -/

section Frame

variable {R : Type}

theorem prevOut_filterStep (c : Config R n) (x : R) (s : Synth R n) :
    (filterStep c x s).flt.prevOut = filterOut c x s := rfl

theorem resolveCutoff_filterStep (c : Config R n) (x : R) (s : Synth R n) :
    resolveCutoff c (filterStep c x s) = resolveCutoff c s := rfl

/-- Before the filter runs, no stage of a TICK writes its memory. -/
theorem prevOut_filterEnvStep_tickModulated [NeZero n] (c : Config R n) (s : Synth R n) :
    (filterEnvStep c (tickModulated c s)).flt.prevOut = s.flt.prevOut := by
  rw [filterEnvStep_flt, lfoUpdate_flt]
  show (tickArp c s).flt.prevOut = _
  rw [tickArp_flt]

end Frame

variable {K : Type} [Field K] [LinearOrder K] [FloorRing K] {c : Config K n} {x y : K}

/-! ## The coefficient (R181) -/

/-- The sample rate cancels in SYN's formula (R181). -/
theorem omega_eq_pi_mul [CharZero K] (hc : c.Legal) (cutoff : K) : omega c cutoff = c.num.pi * cutoff / 4 := by
  have hrate : (c.rate : K) ≠ 0 := Nat.cast_ne_zero.mpr (Nat.zero_lt_of_lt hc.rate_large).ne'
  rw [omega_eq hc.exact]
  field_simp
  ring

/-! ## The step response (R189) -/

/-- One call multiplies the distance from the input by `1 - alpha` (R186). -/
theorem sub_filterOut [CharZero K] (hN : c.num.Exact) (x : K) (s : Synth K n) :
    x - filterOut c x s = (x - s.flt.prevOut) * (1 - alpha c (resolveCutoff c s)) := by
  rw [filterOut_eq hN]; ring

theorem sub_prevOut_filterStep_iterate [CharZero K] (hN : c.num.Exact) (x : K) (m : Nat) (s : Synth K n) :
    x - ((filterStep c x)^[m] s).flt.prevOut = (x - s.flt.prevOut) * (1 - alpha c (resolveCutoff c s)) ^ m := by
  induction m generalizing s with
  | zero => rw [Function.iterate_zero_apply, pow_zero, mul_one]
  | succ m ih =>
    calc x - ((filterStep c x)^[m + 1] s).flt.prevOut
        = (x - filterOut c x s) * (1 - alpha c (resolveCutoff c s)) ^ m := by
          rw [Function.iterate_succ_apply, ih, prevOut_filterStep, resolveCutoff_filterStep]
      _ = (x - s.flt.prevOut) * (1 - alpha c (resolveCutoff c s)) ^ (m + 1) := by
          rw [sub_filterOut hN, pow_succ', mul_assoc]

/-! ## The sample on the port (R233) -/

/-- A quantised level is within the scale, which fits the s16 of the port. -/
theorem abs_quantise_le [CharZero K] (hc : c.Legal) (hy : |y| ≤ 1) : |quantise c y| ≤ 32767 := by
  rw [quantise_eq hc.exact]
  exact (hc.quant_bound y hy).trans (by exact_mod_cast hc.full_scale_le)

theorem toInt_quantise [CharZero K] (hc : c.Legal) (hy : |y| ≤ 1) :
    (BitVec.ofInt 16 (quantise c y)).toInt = quantise c y := by
  obtain ⟨hlow, hhigh⟩ := abs_le.mp (abs_quantise_le hc hy)
  exact BitVec.toInt_ofInt_eq_self (by decide) (by omega) (by omega)

section Ordered

variable [IsStrictOrderedRing K]

/-! ## The range and the order of the coefficient (R182) -/

theorem pi_mul_add_four_pos (hc : c.Legal) (hx : 0 ≤ x) : 0 < c.num.pi * x + 4 :=
  add_pos_of_nonneg_of_pos (mul_nonneg hc.pi_pos.le hx) four_pos

theorem alpha_eq_pi_mul (hc : c.Legal) (hx : 0 ≤ x) : alpha c x = c.num.pi * x / (c.num.pi * x + 4) := by
  have hpos := pi_mul_add_four_pos hc hx
  rw [alpha_eq hc.exact, omega_eq_pi_mul hc]
  field_simp

/-- The weight of the previous output. -/
theorem one_sub_alpha (hc : c.Legal) (hx : 0 ≤ x) : 1 - alpha c x = 4 / (c.num.pi * x + 4) := by
  rw [alpha_eq_pi_mul hc hx, one_sub_div (pi_mul_add_four_pos hc hx).ne', add_sub_cancel_left]

/-- The weight of the previous output falls with the cutoff, so the coefficient rises. -/
theorem alpha_lt_alpha (hc : c.Legal) (hx : 0 ≤ x) (hxy : x < y) : alpha c x < alpha c y := by
  have hpi := hc.pi_pos
  have hy := hx.trans hxy.le
  have hweight : 1 - alpha c y < 1 - alpha c x := by
    rw [one_sub_alpha hc hx, one_sub_alpha hc hy]
    gcongr
  exact (sub_lt_sub_iff_left 1).mp hweight

theorem alpha_zero (hc : c.Legal) : alpha c 0 = 0 := by rw [alpha_eq_pi_mul hc le_rfl, mul_zero, zero_div]

/-! ## The output strictly inside `[-1,1]` (R188) -/

/-- The previous output has a positive weight (R182), so it keeps the output off the ends. -/
theorem abs_filterOut_lt_one (hc : c.Legal) {s : Synth K n} (hx : |x| ≤ 1) (hprev : |s.flt.prevOut| < 1) :
    |filterOut c x s| < 1 := by
  obtain ⟨h0, h1⟩ := alpha_mem hc (resolveCutoff_ok hc.exact s).1
  rw [filterOut_eq hc.exact]
  generalize alpha c (resolveCutoff c s) = a at h0 h1
  have hweight : 0 < 1 - a := sub_pos.mpr h1
  calc |a * x + (1 - a) * s.flt.prevOut| ≤ |a * x| + |(1 - a) * s.flt.prevOut| := abs_add_le _ _
    _ = a * |x| + (1 - a) * |s.flt.prevOut| := by rw [abs_mul, abs_mul, abs_of_nonneg h0, abs_of_pos hweight]
    _ < a * 1 + (1 - a) * 1 :=
        add_lt_add_of_le_of_lt (mul_le_mul_of_nonneg_left hx h0) (mul_lt_mul_of_pos_left hprev hweight)
    _ = 1 := by ring

theorem abs_tick_prevOut_lt_one [NeZero n] (hc : c.Legal) {s : Synth K n} (hprev : |s.flt.prevOut| < 1) :
    |(tick c s).flt.prevOut| < 1 := by
  rw [tick_prevOut]
  refine abs_filterOut_lt_one hc (abs_le.mpr (mixed_signalOk hc.exact _ _ _)) ?_
  rwa [prevOut_filterEnvStep_tickModulated]

/-! ## The truncated sample -/

theorem abs_truncate_le_abs (x : K) : ((|truncate x| : Int) : K) ≤ |x| := by
  rw [Int.cast_abs]
  unfold truncate
  split_ifs with h0
  · have hfloor : (0 : K) ≤ ⌊x⌋ := Int.cast_nonneg (Int.floor_nonneg.mpr h0)
    rw [abs_of_nonneg hfloor, abs_of_nonneg h0]
    exact Int.floor_le x
  · have hneg : x ≤ 0 := (not_le.mp h0).le
    have hceil : (⌈x⌉ : K) ≤ 0 := Int.cast_nonpos.mpr (Int.ceil_le.mpr (by rwa [Int.cast_zero]))
    rw [abs_of_nonpos hceil, abs_of_nonpos hneg]
    exact neg_le_neg (Int.le_ceil x)

end Ordered

/-- The machine truncates, so only a level of 1 or -1 gives the full scale. -/
theorem abs_quantise_engine_lt {y : ℚ} (hy : |y| < 1) : |quantise engine y| < 32767 := by
  rw [quantise_eq engine_exact, engine_quantRound, engine_fullScale]
  have hlt : ((|truncate (y * 32767)| : Int) : ℚ) < (32767 : Int) :=
    calc ((|truncate (y * 32767)| : Int) : ℚ) ≤ |y * 32767| := abs_truncate_le_abs _
      _ = |y| * 32767 := by rw [abs_mul, abs_of_pos (by norm_num : (0 : ℚ) < 32767)]
      _ < (32767 : Int) := by push_cast; linarith
  exact_mod_cast hlt

/-! ## The statements -/

/-- Settles O16: a TICK keeps the invariant, which bounds the output, and the cut to 16 bits loses nothing. -/
theorem samplesStayInRange : Obligations.SamplesStayInRange := by
  intro K _ _ _ _ n _ c s hc h
  have hout : SignalOk (tick c s).flt.prevOut := (h.tick hc).prevOut
  obtain ⟨hlow, hhigh⟩ := abs_le.mp (abs_quantise_le hc (abs_le.mpr hout))
  refine ⟨hout, _, tick_smpOut c s, ?_⟩
  rw [toInt_quantise hc (abs_le.mpr hout)]
  exact ⟨quantise_eq hc.exact _, hlow, hhigh⟩

/-- Settles O17: the strict bound on the filter's memory passes to its output, and the sample is its truncation. -/
theorem fullScaleIsNeverReached : Obligations.FullScaleIsNeverReached := by
  intro s _ hlow hhigh
  have hout := abs_tick_prevOut_lt_one engine_legal (abs_lt.mpr ⟨hlow, hhigh⟩)
  obtain ⟨houtLow, houtHigh⟩ := abs_lt.mp hout
  obtain ⟨hsmpLow, hsmpHigh⟩ := abs_lt.mp (abs_quantise_engine_lt hout)
  refine ⟨⟨tick engine s.toSynth⟩, _, exec_eq_command .., houtLow, houtHigh, tick_smpOut .., ?_⟩
  rw [toInt_quantise engine_legal hout.le]
  constructor <;> omega

/-- Settles O39: the coefficient in closed form, its range and order, and its value at a cutoff of 0. -/
theorem filterCoefficient : Obligations.FilterCoefficient := by
  intro K _ _ _ _ n c hc
  refine ⟨fun x hx => ⟨alpha_eq_pi_mul hc hx, alpha_mem hc hx⟩, fun x y => alpha_lt_alpha hc, fun s x h => ?_⟩
  rw [filterOut_eq hc.exact, h, alpha_zero hc, zero_mul, zero_add, sub_zero, one_mul]

/-- Settles O40: the factor of one call, iterated, and its value `4/(PI + 4)` for the machine at cutoff 1. -/
theorem filterStepResponse : Obligations.FilterStepResponse := by
  have hfactor : 1 - alpha engine 1 = 4 / (piValue + 4) := by
    rw [one_sub_alpha engine_legal zero_le_one, engine_pi, mul_one]
  refine ⟨fun K _ _ _ _ n c s x m hN => sub_prevOut_filterStep_iterate hN x m s, ?_⟩
  rw [hfactor, piValue]
  norm_num

end Sys2Proof.Machine
end

section
/-! PROOF. O30 and O31: the LFO's multiplier, and what the LFO's update does in every TICK (spec/45_lfo.md R196 to R201,
spec/43_detune_frequency.md R174). -/

namespace Sys2Proof.Machine

variable {n : Nat}

/-! ## The multiplier (R197) -/

section Multiplier

variable {K : Type} [Field K] [LinearOrder K] [FloorRing K] {N : NumOps K}

theorem lfoMultiplier_sine (hN : N.Exact) (p : K) : lfoMultiplier N .sine p = |N.sin2pi p| := hN.abs _

theorem lfoMultiplier_triangle [CharZero K] (hN : N.Exact) (p : K) :
    lfoMultiplier N .triangle p = abs (1 - 4 * |p - 1 / 2|) :=
  (hN.abs _).trans (congrArg abs (wave_triangle hN p))

end Multiplier

/-- Settles O30: a rectified waveform is an absolute value that is a signal; the sawtooth is below 1 because the phase
is. -/
theorem lfoMultiplierIsRectified : Obligations.LfoMultiplierIsRectified := by
  intro K _ _ _ _ n c p hc hp
  have hN := hc.exact
  have hsine := lfoMultiplier_sine hN p
  have htriangle := lfoMultiplier_triangle hN p
  have hsaw : lfoMultiplier c.num .sawtooth p = 2 * p - 1 := wave_sawtooth hN p
  have hle : ∀ w, lfoMultiplier c.num w p ≤ 1 := fun w => (lfoMultiplier_signalOk hc w hp).2
  refine ⟨hsine, ⟨hsine ▸ abs_nonneg _, hle .sine⟩, htriangle, ⟨htriangle ▸ abs_nonneg _, hle .triangle⟩,
    wave_square hN p, hsaw, (lfoMultiplier_signalOk hc .sawtooth hp).1, ?_⟩
  rw [hsaw]
  linarith [hp.2]

/-! ## A voice before the LFO's update: note and frequencies are those before the TICK -/

section Stages

variable {R : Type}

/-- The frequencies of a voice's three oscillators. -/
def oscFreqs (v : Voice R) : R × R × R := (v.osc0.freq, v.osc1.freq, v.osc2.freq)

/-- Of a voice record, the arpeggiator's step of a TICK writes the envelope at most (R214). -/
theorem getElem_tickArp_pool [NeZero n] (c : Config R n) (s : Synth R n) (i : Fin n) :
    (tickArp c s).pool[i] = { s.pool[i] with env := (tickArp c s).pool[i].env } := by
  cases harp : s.params.arpEn with
  | false => rw [tickArp_of_nonarp harp]
  | true =>
    rw [tickArp_of_arp harp]
    cases hfires : c.num.le (c.num.ofRat 1) (c.num.add s.arp.phase (tempoIncrement c s.params)) with
    | false => rw [arpStep_of_lt hfires]; rfl
    | true =>
      rw [arpStep_of_le hfires]
      by_cases hcnt : pressedCount s.pool = 0
      · rw [arpFire_of_none hcnt]; rfl
      · rw [arpFire_of_some hcnt, retriggerAt_eq]
        split
        · exact getElem_poolSet_withEnv .. ▸ rfl
        · rfl

/-- The voices are rendered as they stand after the arpeggiator's step (R226, R227). -/
theorem getElem_tickRendered_pool [NeZero n] (c : Config R n) (s : Synth R n) (i : Fin n) :
    (tickRendered c s).pool[i] =
      if eligible (tickArp c s) i = true then renderVoice c s.params (tickArp c s).pool[i] else (tickArp c s).pool[i] := by
  rw [← tickArp_params c s]
  exact getElem_renderPool c (tickArp c s) i

theorem tickRendered_note [NeZero n] (c : Config R n) (s : Synth R n) (i : Fin n) :
    (tickRendered c s).pool[i].note = s.pool[i].note := by
  rw [getElem_tickRendered_pool, getElem_tickArp_pool]; split <;> rfl

theorem tickRendered_oscFreqs [NeZero n] (c : Config R n) (s : Synth R n) (i : Fin n) :
    oscFreqs (tickRendered c s).pool[i] = oscFreqs s.pool[i] := by
  rw [getElem_tickRendered_pool, getElem_tickArp_pool]; split <;> rfl

theorem tickRendered_params [NeZero n] (c : Config R n) (s : Synth R n) : (tickRendered c s).params = s.params :=
  tickArp_params c s

theorem tickRendered_lfo [NeZero n] (c : Config R n) (s : Synth R n) : (tickRendered c s).lfo = s.lfo :=
  tickArp_lfo c s

theorem tickRendered_flt [NeZero n] (c : Config R n) (s : Synth R n) : (tickRendered c s).flt = s.flt :=
  tickArp_flt c s

/-! ## The LFO's update within a TICK (R196, R198, R199, R201) -/

/-- The LFO after a TICK, from the registers before it. -/
theorem tick_lfo_eq [NeZero n] (c : Config R n) (s : Synth R n) :
    (tick c s).lfo =
      { phase := phaseStep c s.lfo.phase s.params.lfoFreq
        lfoDetune := if s.params.lfoTarget = .detune then c.num.mul (tickMultiplier c s) s.params.detune else s.lfo.lfoDetune
        lfoAmp :=
          if s.params.lfoTarget = .amplitude then c.num.mul (tickMultiplier c s) s.params.amplitude else s.lfo.lfoAmp } := by
  rw [tick_lfo, lfoUpdate_lfo, tickMultiplier, tickRendered_params, tickRendered_lfo]

theorem tick_lfoCutoff_eq [NeZero n] (c : Config R n) (s : Synth R n) :
    (tick c s).flt.lfoCutoff =
      if s.params.lfoTarget = .cutoff then c.num.mul (tickMultiplier c s) s.params.cutoff else s.flt.lfoCutoff := by
  rw [tick_lfoCutoff, lfoUpdate_flt, tickMultiplier, tickRendered_params, tickRendered_lfo, tickRendered_flt]

/-- With the target Detune a TICK retunes the rendered voices for the new shadow. -/
theorem getElem_tick_pool_of_detune [NeZero n] (c : Config R n) {s : Synth R n} (h : s.params.lfoTarget = .detune)
    (i : Fin n) : (tick c s).pool[i] = detuneVoice c (tick c s).lfo.lfoDetune (tickRendered c s).pool[i] := by
  rw [tick_pool, tick_lfo, lfoUpdate_pool, lfoUpdate_lfo, tickRendered_params, if_pos h, if_pos h, getElem_poolMap]

/-- With any other target the LFO's update leaves the rendered voices. -/
theorem tick_pool_of_not_detune [NeZero n] (c : Config R n) {s : Synth R n} (h : s.params.lfoTarget ≠ .detune) :
    (tick c s).pool = (tickRendered c s).pool := by
  rw [tick_pool, lfoUpdate_pool, tickRendered_params, if_neg h]

/-- A TICK changes the frequencies of an assigned voice alone, and only with the target Detune (R174). -/
theorem tick_oscFreqs [NeZero n] (c : Config R n) {s : Synth R n} {i : Fin n}
    (h : s.params.lfoTarget ≠ .detune ∨ s.pool[i].note = -1) : oscFreqs (tick c s).pool[i] = oscFreqs s.pool[i] := by
  by_cases htarget : s.params.lfoTarget = .detune
  · have hnote : (tickRendered c s).pool[i].note = -1 :=
      (tickRendered_note c s i).trans (h.resolve_left (not_not.mpr htarget))
    rw [getElem_tick_pool_of_detune c htarget, detuneVoice_of_unassigned hnote, tickRendered_oscFreqs]
  · rw [tick_pool_of_not_detune c htarget, tickRendered_oscFreqs]

end Stages

/-- With the target Detune every assigned voice is tuned for the new shadow after a TICK (R201). -/
theorem tick_tuned {K : Type} [Field K] [LinearOrder K] [FloorRing K] [CharZero K] [NeZero n] {c : Config K n}
    (hN : c.num.Exact) {s : Synth K n} (h : s.params.lfoTarget = .detune) {i : Fin n}
    (hnote : (tick c s).pool[i].note ≠ -1) : (tick c s).pool[i].Tuned c (tick c s).lfo.lfoDetune := by
  rw [getElem_tick_pool_of_detune c h] at hnote ⊢
  exact detuneVoice_tuned hN _ _ hnote

/-- Settles O31: the LFO's update reads what the arpeggiator and the voices leave alone, and the stages after it leave
the LFO, its shadows and the pool. -/
theorem tickRoutesTheLfo : Obligations.TickRoutesTheLfo := by
  intro s
  have hN := engine_exact
  have hrate : (engine.rate : ℚ) = 44100 := rfl
  refine ⟨⟨tick engine s.toSynth⟩, exec_eq_command .., ?_⟩
  dsimp only
  have hlfo := tick_lfo_eq engine s.toSynth
  have hcutoff := tick_lfoCutoff_eq engine s.toSynth
  rw [hN.mul] at hcutoff
  rw [phaseStep_eq hN, hN.mul, hN.mul, hrate] at hlfo
  refine ⟨congrArg Lfo.phase hlfo, hcutoff, congrArg Lfo.lfoDetune hlfo, congrArg Lfo.lfoAmp hlfo,
    fun htarget i => tick_tuned hN htarget, fun i h => ?_⟩
  simpa only [oscFreqs, Prod.mk.injEq] using tick_oscFreqs engine h

end Sys2Proof.Machine
end

section
/-! PROOF. O41, O42 and O43: the tempo accumulator, TICK in arpeggio mode, and the mode switch
(spec/46_arpeggiator.md R211 to R219, spec/47_mixer_tick.md R226 to R236). -/

namespace Sys2Proof.Machine

variable {n : Nat}

/-! ## The mode switch (R218, R288) -/

section Switch

variable {R : Type} [NeZero n]

theorem arpModeSwitch_of_eq {c : Config R n} {s : Synth R n} {b : Bool} (h : b = s.params.arpEn) :
    arpModeSwitch c b s = s := if_pos h

theorem arpModeSwitch_of_ne {c : Config R n} {s : Synth R n} {b : Bool} (h : b ≠ s.params.arpEn) :
    arpModeSwitch c b s =
      ((s.setParams { s.params with arpEn := b }).setPool (s.pool.map (forgetVoice c.num))).setArp ⟨0, c.num.ofRat 0⟩ :=
  if_neg h

/-- Every operand but 0 sets a Boolean register (R88). -/
theorem setBool_eq (v : Half) : setBool v = decide (v ≠ 0) := by
  rw [setBool, boolOfCode_eq, decide_eq_decide]
  exact not_congr (BitVec.toNat_eq (y := 0)).symm

theorem command_setArpEn (c : Config R n) (v : Half) (s : Synth R n) :
    command c (.setArpEn v) s = arpModeSwitch c (decide (v ≠ 0)) s := by
  rw [command_eq_writeParam c s rfl, setBool_eq]; rfl

end Switch

theorem forgetVoice_eq {K : Type} [Field K] [LinearOrder K] [FloorRing K] {N : NumOps K} (hN : N.Exact) (v : Voice K) :
    forgetVoice N v = { v with note := -1, pressed := false, vel := 0, env := ⟨.idle, 0⟩ } := by
  rw [forgetVoice, hN.ofRat, Rat.cast_zero]

/-- Settles O43: the command is `arp_mode_switch`, which tests whether the value changes. -/
theorem arpeggioModeSwitchForgetsNotes : Obligations.ArpeggioModeSwitchForgetsNotes := by
  intro s v
  constructor
  · intro h
    exact exec_eq_self ((command_setArpEn engine v _).trans (arpModeSwitch_of_eq h))
  · intro h
    have hswitch := (command_setArpEn engine v s.toSynth).trans (arpModeSwitch_of_ne h)
    refine ⟨_, (exec_eq_command ..).trans (by rw [hswitch]), rfl, rfl, fun i => ?_, rfl⟩
    exact (getElem_poolMap ..).trans (forgetVoice_eq engine_exact _)

/-! ## Pressed voices, and the voice that is rendered (R211, R219, R226) -/

section Pool

variable {R : Type}

theorem pressedCount_eq_card (p : Pool R n) :
    pressedCount p = (Finset.univ.filter fun i : Fin n => p[i].pressed = true).card := by
  rw [Finset.card_def, Finset.filter_val, ← Multiset.countP_eq_card_filter, Fin.univ_def, Multiset.coe_countP]
  simp [pressedCount, slots]

theorem pressedCount_le (p : Pool R n) : pressedCount p ≤ n :=
  List.countP_le_length.trans (List.length_finRange).le

theorem pressed_of_pressedCount_eq_zero {p : Pool R n} (h : pressedCount p = 0) (i : Fin n) : p[i].pressed = false := by
  simpa using List.countP_eq_zero.mp h i (List.mem_finRange i)

theorem eligible_of_arp {s : Synth R n} (h : s.params.arpEn = true) (i : Fin n) :
    eligible s i = (i == s.arp.index) := if_pos h

/-- In arpeggio mode the voice at the index is the only eligible one (R226). -/
theorem filter_eligible_of_arp {s : Synth R n} (h : s.params.arpEn = true) :
    (slots n).filter (eligible s) = [s.arp.index] := by
  rw [funext (eligible_of_arp h), List.filter_beq, slots,
    List.count_eq_one_of_mem (List.nodup_finRange n) (List.mem_finRange _), List.replicate_one]

end Pool

/-! ## TICK in either mode, from the state after its first step (R184, R185, R229, R236) -/

section Tick

variable {R : Type} [NeZero n]

/-- The LFO moves frequencies alone, so a TICK leaves the envelopes of the rendered voices. -/
theorem tick_env (c : Config R n) (s : Synth R n) (i : Fin n) :
    (tick c s).pool[i].env = (tickRendered c s).pool[i].env := by
  by_cases h : s.params.lfoTarget = .detune
  · rw [getElem_tick_pool_of_detune c h, detuneVoice_env]
  · rw [tick_pool_of_not_detune c h]

theorem tick_oscPhases (c : Config R n) (s : Synth R n) (i : Fin n) :
    oscPhases (tick c s).pool[i] = oscPhases (tickRendered c s).pool[i] := by
  by_cases h : s.params.lfoTarget = .detune
  · rw [getElem_tick_pool_of_detune c h, oscPhases_detuneVoice]
  · rw [tick_pool_of_not_detune c h]

/-- The output of the filter's envelope in a TICK that advances it. -/
def tickFenvOut (c : Config R n) (s : Synth R n) : R := (envAdvance c (tickArp c s).fenv s.params.fAdsr).out

theorem tick_envCutoff_eq (c : Config R n) (s : Synth R n) :
    (tick c s).flt.envCutoff =
      if s.params.fEnvEn = true then envelopeCutoff c s.params.cutoff (tickFenvOut c s) else s.flt.envCutoff := by
  rw [tick_envCutoff, filterEnvStep_flt, lfoUpdate_flt, lfoUpdate_params, lfoUpdate_fenv, tickRendered_params,
    tickRendered_flt]
  rfl

theorem effectiveAmplitude_tickModulated (c : Config R n) (s : Synth R n) :
    effectiveAmplitude (tickModulated c s) =
      if s.params.lfoTarget = .amplitude then c.num.mul (tickMultiplier c s) s.params.amplitude else s.params.amplitude := by
  rw [effectiveAmplitude, lfoUpdate_params, lfoUpdate_lfo, tickMultiplier, tickRendered_params, tickRendered_lfo]
  split <;> rfl

variable {K : Type} [Field K] [LinearOrder K] [FloorRing K] {c : Config K n}

/-- The cutoff a TICK filters with: the clamp of the envelope's cutoff is absorbed by the clamp of all three (R185). -/
theorem resolveCutoff_tick [IsStrictOrderedRing K] (hN : c.num.Exact) (s : Synth K n) :
    resolveCutoff c (filterEnvStep c (tickModulated c s)) =
      max 0 (min 1
        (if s.params.lfoTarget = .cutoff then tickMultiplier c s * s.params.cutoff
         else if s.params.fEnvEn = true then s.params.cutoff + tickFenvOut c s / 2 else s.params.cutoff)) := by
  have henv : (filterEnvStep c (tickModulated c s)).flt.envCutoff = _ := tick_envCutoff_eq c s
  have hlfo : (filterEnvStep c (tickModulated c s)).flt.lfoCutoff = _ := tick_lfoCutoff_eq c s
  rw [resolveCutoff_eq hN, henv, hlfo, filterEnvStep_params, lfoUpdate_params, tickRendered_params, hN.mul,
    envelopeCutoff_eq hN]
  split_ifs
  · rw [min_comm]
  · rw [min_eq_left (max_le zero_le_one (min_le_right _ _)), ← max_assoc, max_self, min_comm]
  · rw [min_comm]

theorem tick_prevOut_eq [CharZero K] (hN : c.num.Exact) (s : Synth K n) {cutoff : K}
    (h : resolveCutoff c (filterEnvStep c (tickModulated c s)) = cutoff) :
    (tick c s).flt.prevOut = alpha c cutoff * (tick c s).flt.prevIn + (1 - alpha c cutoff) * s.flt.prevOut := by
  rw [tick_prevOut, filterOut_eq hN, prevOut_filterEnvStep_tickModulated, h]; rfl

end Tick

theorem tick_smpOut_engine (s : Synth ℚ VOICES) :
    (tick engine s).smpOut = some (BitVec.ofInt 16
      (if 0 ≤ (tick engine s).flt.prevOut then ⌊(tick engine s).flt.prevOut * 32767⌋
       else ⌈(tick engine s).flt.prevOut * 32767⌉)) := by
  have hsign : 0 ≤ (tick engine s).flt.prevOut * 32767 ↔ 0 ≤ (tick engine s).flt.prevOut :=
    mul_nonneg_iff_of_pos_right (by norm_num)
  rw [tick_smpOut, quantise_eq engine_exact, engine_quantRound, engine_fullScale, truncate, Nat.cast_ofNat]
  simp only [hsign]

/-! ## The step of the arpeggiator (R211 to R214, R217) -/

section Step

variable {K : Type} [Field K] {c : Config K n} {s : Synth K n}

/-- The tempo phase a step tests: the one before it and the increment (R211, R212). -/
def tempoPhase (c : Config K n) (s : Synth K n) : K := s.arp.phase + s.params.bpm / (60 * c.rate)

variable [LinearOrder K]

/-- What becomes of an envelope when the step fires, or does not, at the slot `i` (R214). -/
def retriggered (c : Config K n) (s : Synth K n) (i : Fin n) (e : Envelope K) : Envelope K :=
  if 1 ≤ tempoPhase c s ∧ s.pool[i].pressed = true then ⟨.attack, 1 / 1000⟩ else e

/-- The voice in the slot `i`, the index of the arpeggiator, after the step. -/
def steppedVoice (c : Config K n) (s : Synth K n) (i : Fin n) : Voice K :=
  { s.pool[i] with env := retriggered c s i s.pool[i].env }

theorem retriggered_of_lt (h : tempoPhase c s < 1) (i : Fin n) (e : Envelope K) : retriggered c s i e = e :=
  if_neg fun hfires => not_le.mpr h hfires.1

theorem retriggered_of_not_pressed {i : Fin n} (h : s.pool[i].pressed = false) (e : Envelope K) :
    retriggered c s i e = e :=
  if_neg fun hfires => Bool.false_ne_true (h.symm.trans hfires.2)

theorem retriggered_of_pressed (h : 1 ≤ tempoPhase c s) {i : Fin n} (hi : s.pool[i].pressed = true) (e : Envelope K) :
    retriggered c s i e = ⟨.attack, 1 / 1000⟩ := if_pos ⟨h, hi⟩

/-- The state the step leaves, but for the arpeggiator's own registers: `i` is its index after the step (R214). -/
def stepped (c : Config K n) (s : Synth K n) (i : Fin n) : Synth K n :=
  (s.setPool (s.pool.set i (steppedVoice c s i))).setFenv
    (if s.params.fEnvEn = true then retriggered c s i s.fenv else s.fenv)

/-- A step that re-triggers nothing leaves the pool and the filter's envelope. -/
theorem stepped_eq_self {i : Fin n} (h : ∀ e, retriggered c s i e = e) : stepped c s i = s := by
  have hpool : s.pool.set i (steppedVoice c s i) = s.pool := by
    rw [steppedVoice, h]; exact Vector.set_getElem_self i.isLt
  rw [stepped, hpool, h, ite_self]; rfl

variable [FloorRing K] [CharZero K]

/-- The re-trigger at the new index, in a step that fires. -/
theorem retriggerAt_eq_stepped (hN : c.num.Exact) (h : 1 ≤ tempoPhase c s) (a : Arp K n) (i : Fin n) :
    retriggerAt c i (s.setArp a) = (stepped c s i).setArp a := by
  cases hi : s.pool[i].pressed with
  | true =>
    refine (retriggerAt_eq ..).trans ((if_pos hi).trans ?_)
    rw [stepped, steppedVoice, retriggered_of_pressed h hi, retriggered_of_pressed h hi, envTrigger_eq hN,
      envTrigger_eq hN]
    rfl
  | false =>
    refine (retriggerAt_eq ..).trans ((if_neg (Bool.not_eq_true _ ▸ hi)).trans ?_)
    rw [stepped_eq_self (retriggered_of_not_pressed hi)]

variable [NeZero n]

/-- A step below 1 adds to the phase, and does nothing else. -/
theorem arpStep_of_tempoPhase_lt (hN : c.num.Exact) (h : tempoPhase c s < 1) :
    arpStep c s = s.setArp ⟨s.arp.index, tempoPhase c s⟩ := by
  rw [arpStep_of_lt (by rw [arpStep_fires hN]; exact decide_eq_false (not_le.mpr h)), hN.add, tempoIncrement_eq hN]
  rfl

theorem arpStep_of_le_tempoPhase (hN : c.num.Exact) (h : 1 ≤ tempoPhase c s) : arpStep c s = arpFire c s :=
  arpStep_of_le (by rw [arpStep_fires hN]; exact decide_eq_true h)

/-- The step that fires discards what the phase exceeds 1 by (R212). -/
theorem arpStep_phase_of_le (hN : c.num.Exact) (h : 1 ≤ tempoPhase c s) : (arpStep c s).arp.phase = 0 := by
  rw [arpStep_of_le_tempoPhase hN h, arpFire_phase, hN.ofRat, Rat.cast_zero]

/-- Where the step that fires puts the index (R213, R217). -/
theorem arpStep_index_of_le (hN : c.num.Exact) (h : 1 ≤ tempoPhase c s) :
    (arpStep c s).arp.index =
      if pressedCount s.pool = 0 then 0 else nextIndex s.arp.index (pressedCount s.pool) := by
  rw [arpStep_of_le_tempoPhase hN h]
  split_ifs with hcnt
  · rw [arpFire_of_none hcnt]; rfl
  · rw [arpFire_of_some hcnt, retriggerAt_eq_stepped hN h]; rfl

/-- The step writes the envelopes of `stepped` and the arpeggiator's registers, and nothing else (R211, R214). -/
theorem arpStep_eq_stepped (hN : c.num.Exact) :
    arpStep c s = (stepped c s (arpStep c s).arp.index).setArp (arpStep c s).arp := by
  rcases lt_or_ge (tempoPhase c s) 1 with hlt | hle
  · rw [stepped_eq_self (retriggered_of_lt hlt _), arpStep_of_tempoPhase_lt hN hlt]; rfl
  · rw [arpStep_of_le_tempoPhase hN hle]
    by_cases hcnt : pressedCount s.pool = 0
    · rw [stepped_eq_self (retriggered_of_not_pressed (pressed_of_pressedCount_eq_zero hcnt _)), arpFire_of_none hcnt]; rfl
    · rw [arpFire_of_some hcnt, retriggerAt_eq_stepped hN hle]; rfl

end Step

/-! ## The tempo accumulator (R212) -/

section Period

variable {K : Type} [Field K] [LinearOrder K] [IsStrictOrderedRing K] [FloorRing K] [NeZero n] {c : Config K n}

/-- From phase 0 the accumulator counts steps while it stays below 1. -/
theorem arpStep_iterate (hN : c.num.Exact) {s : Synth K n} (h0 : s.arp.phase = 0) (hbpm : 0 ≤ s.params.bpm) {m : Nat}
    (hm : m * (s.params.bpm / (60 * c.rate)) < 1) :
    (arpStep c)^[m] s = s.setArp ⟨s.arp.index, m * (s.params.bpm / (60 * c.rate))⟩ := by
  have hinc : 0 ≤ s.params.bpm / (60 * (c.rate : K)) := by positivity
  have hstart : s.setArp ⟨s.arp.index, (0 : Nat) * (s.params.bpm / (60 * c.rate))⟩ = s := by
    rw [Nat.cast_zero, zero_mul, ← h0]; rfl
  have horbit := iterate_eq_of_orbit (f := arpStep c) (m := m)
    (x := fun k => s.setArp ⟨s.arp.index, k * (s.params.bpm / (60 * c.rate))⟩) fun k hk => by
      have hphase : tempoPhase c (s.setArp ⟨s.arp.index, k * (s.params.bpm / (60 * c.rate))⟩) =
          (k + 1 : Nat) * (s.params.bpm / (60 * c.rate)) := by
        rw [Nat.cast_add_one, add_one_mul]; rfl
      have hle : (k + 1 : Nat) * (s.params.bpm / (60 * (c.rate : K))) ≤ m * (s.params.bpm / (60 * c.rate)) := by
        gcongr; exact hk
      rw [arpStep_of_tempoPhase_lt hN (hphase ▸ hle.trans_lt hm), hphase]; rfl
  rwa [hstart] at horbit

/-- Settles O41: the run of steps below 1, and the step that fires. -/
theorem arpeggiatorPeriod : Obligations.ArpeggiatorPeriod := by
  intro K _ _ _ _ n _ c s m hN h0 hbpm inc hm
  have hrun := arpStep_iterate hN h0 hbpm hm
  refine ⟨hrun, fun hfires => ?_⟩
  rw [Function.iterate_succ_apply', hrun]
  refine arpStep_phase_of_le hN (hfires.trans_eq ?_)
  rw [add_one_mul]; rfl

end Period

/-! ## TICK in arpeggio mode (R219, R226 to R231) -/

section ArpTick

variable {K : Type} [Field K] [LinearOrder K] [FloorRing K] [CharZero K] {c : Config K n} {s : Synth K n}

theorem voiceSum_of_arp (hN : c.num.Exact) (h : s.params.arpEn = true) :
    voiceSum c s = voiceSample c s.params s.pool[s.arp.index] := by
  rw [voiceSum_eq hN, filter_eligible_of_arp h, List.map_singleton, List.sum_singleton]

variable [NeZero n]

theorem getElem_tickArp_pool_of_arp (hN : c.num.Exact) (h : s.params.arpEn = true) (j : Fin n) :
    (tickArp c s).pool[j] =
      if (tick c s).arp.index = j then steppedVoice c s (tick c s).arp.index else s.pool[j] := by
  rw [tick_arp, tickArp_of_arp h, ← getElem_poolSet, arpStep_eq_stepped hN]; rfl

theorem tickArp_arpEn {R : Type} (c : Config R n) {s : Synth R n} (h : s.params.arpEn = true) :
    (tickArp c s).params.arpEn = true := (congrArg Params.arpEn (tickArp_params c s)).trans h

/-- A TICK renders the voice at the index its own step leaves (R219, R226). -/
theorem eligible_tickArp_of_arp {R : Type} (c : Config R n) {s : Synth R n} (h : s.params.arpEn = true) (j : Fin n) :
    eligible (tickArp c s) j = (j == (tick c s).arp.index) := by
  rw [eligible_of_arp (tickArp_arpEn c h), tick_arp]

/-- The voice at the index is rendered as the step left it (R219, R227). -/
theorem getElem_tickRendered_index (hN : c.num.Exact) (h : s.params.arpEn = true) :
    (tickRendered c s).pool[(tick c s).arp.index] =
      renderVoice c s.params (steppedVoice c s (tick c s).arp.index) := by
  rw [getElem_tickRendered_pool, eligible_tickArp_of_arp c h, beq_self_eq_true, if_pos rfl,
    getElem_tickArp_pool_of_arp hN h, if_pos rfl]

/-- No other voice is touched before the LFO's update (R219, R226). -/
theorem getElem_tickRendered_of_ne (hN : c.num.Exact) (h : s.params.arpEn = true) {j : Fin n}
    (hj : j ≠ (tick c s).arp.index) : (tickRendered c s).pool[j] = s.pool[j] := by
  rw [getElem_tickRendered_pool, eligible_tickArp_of_arp c h, if_neg (by simpa using hj),
    getElem_tickArp_pool_of_arp hN h, if_neg hj.symm]

theorem tickArp_fenv_of_arp (hN : c.num.Exact) (h : s.params.arpEn = true) :
    (tickArp c s).fenv =
      if s.params.fEnvEn = true then retriggered c s (tick c s).arp.index s.fenv else s.fenv := by
  rw [tick_arp, tickArp_of_arp h, arpStep_eq_stepped hN]; rfl

theorem tickFenvOut_of_arp (hN : c.num.Exact) (h : s.params.arpEn = true) (hen : s.params.fEnvEn = true) :
    tickFenvOut c s = (envAdvance c (retriggered c s (tick c s).arp.index s.fenv) s.params.fAdsr).out := by
  rw [tickFenvOut, tickArp_fenv_of_arp hN h, if_pos hen]

theorem tick_fenv_of_arp (hN : c.num.Exact) (h : s.params.arpEn = true) :
    (tick c s).fenv =
      if s.params.fEnvEn = true then envAdvance c (retriggered c s (tick c s).arp.index s.fenv) s.params.fAdsr
      else s.fenv := by
  rw [tick_fenv, tickArp_fenv_of_arp hN h]
  split <;> rfl

/-- The arpeggiator after a TICK that does not fire (R211). -/
theorem tick_arp_of_lt (hN : c.num.Exact) (h : s.params.arpEn = true) (hlt : tempoPhase c s < 1) :
    (tick c s).arp = ⟨s.arp.index, tempoPhase c s⟩ := by
  rw [tick_arp, tickArp_of_arp h, arpStep_of_tempoPhase_lt hN hlt]; rfl

/-- The arpeggiator after a TICK that fires (R212, R213, R217). -/
theorem tick_arp_of_le (hN : c.num.Exact) (h : s.params.arpEn = true) (hle : 1 ≤ tempoPhase c s) :
    (tick c s).arp.phase = 0 ∧ (pressedCount s.pool = 0 → (tick c s).arp.index = 0) ∧
      (0 < pressedCount s.pool → (tick c s).arp.index.val = (s.arp.index.val + 1) % pressedCount s.pool) := by
  rw [tick_arp, tickArp_of_arp h, arpStep_index_of_le hN hle]
  refine ⟨arpStep_phase_of_le hN hle, fun hcnt => if_pos hcnt, fun hcnt => ?_⟩
  rw [if_neg hcnt.ne', nextIndex_val _ hcnt (pressedCount_le _)]

/-- The filter's input: the one voice, with no gain, the amplitude and the clamp (R230, R231). -/
theorem tick_prevIn_of_arp [IsStrictOrderedRing K] (hN : c.num.Exact) (h : s.params.arpEn = true) :
    (tick c s).flt.prevIn = max (-1) (min 1
      (voiceSample c s.params (steppedVoice c s (tick c s).arp.index) *
        if s.params.lfoTarget = .amplitude then tickMultiplier c s * s.params.amplitude else s.params.amplitude)) := by
  have hmod : (tickModulated c s).params.arpEn = true :=
    (congrArg Params.arpEn ((lfoUpdate_params ..).trans (tickRendered_params c s))).trans h
  have hvoice : (tickArp c s).pool[(tickArp c s).arp.index] = steppedVoice c s (tick c s).arp.index :=
    (getElem_tickArp_pool_of_arp hN h _).trans (if_pos (congrArg Arp.index (tick_arp c s)))
  rw [tick_prevIn, tickMixed, mixed_eq hN, voiceSum_of_arp hN (tickArp_arpEn c h), gain_eq hN, if_pos (.inl hmod), mul_one,
    effectiveAmplitude_tickModulated, hN.mul, tickArp_params, hvoice, min_comm]

/-- The voice at the index advances its envelope and its three phases (R227). -/
theorem tick_env_index (hN : c.num.Exact) (h : s.params.arpEn = true) :
    (tick c s).pool[(tick c s).arp.index].env =
      envAdvance c (steppedVoice c s (tick c s).arp.index).env s.params.adsr := by
  rw [tick_env, getElem_tickRendered_index hN h, renderVoice_env]

theorem tick_oscPhases_index (hN : c.num.Exact) (h : s.params.arpEn = true) {i : Fin n} (hi : i = (tick c s).arp.index) :
    oscPhases (tick c s).pool[i] =
      (Int.fract (s.pool[i].osc0.phase + s.pool[i].osc0.freq / c.rate),
        Int.fract (s.pool[i].osc1.phase + s.pool[i].osc1.freq / c.rate),
        Int.fract (s.pool[i].osc2.phase + s.pool[i].osc2.freq / c.rate)) := by
  subst hi
  rw [tick_oscPhases, getElem_tickRendered_index hN h, ← phaseStep_eq hN, ← phaseStep_eq hN, ← phaseStep_eq hN]
  rfl

theorem tick_env_of_ne (hN : c.num.Exact) (h : s.params.arpEn = true) {j : Fin n} (hj : j ≠ (tick c s).arp.index) :
    (tick c s).pool[j].env = s.pool[j].env := by
  rw [tick_env, getElem_tickRendered_of_ne hN h hj]

theorem tick_oscPhases_of_ne (hN : c.num.Exact) (h : s.params.arpEn = true) {j : Fin n}
    (hj : j ≠ (tick c s).arp.index) : oscPhases (tick c s).pool[j] = oscPhases s.pool[j] := by
  rw [tick_oscPhases, getElem_tickRendered_of_ne hN h hj]

end ArpTick

/-- Settles O42: the step of the arpeggiator, and each later stage of the TICK from the state the step leaves. -/
theorem tickInArpeggioMode : Obligations.TickInArpeggioMode := by
  intro s harp
  have hN := engine_exact
  have hrate : (engine.rate : ℚ) = 44100 := rfl
  refine ⟨⟨tick engine s.toSynth⟩, exec_eq_command .., ?_⟩
  intro phase cnt i v f m amp fe cutoff
  have hphase : phase = tempoPhase engine s.toSynth := by rw [tempoPhase, hrate]
  have hcnt : cnt = pressedCount s.pool := (pressedCount_eq_card s.pool).symm
  have hv : v = steppedVoice engine s.toSynth i := by simp only [v, steppedVoice, retriggered, hphase]
  have hf : f = retriggered engine s.toSynth i s.fenv := by simp only [f, retriggered, hphase]
  have hfe : s.params.fEnvEn = true → tickFenvOut engine s.toSynth = fe.out := fun hen => by
    rw [tickFenvOut_of_arp hN harp hen]; simp only [fe, hf]; rfl
  have hcutoff : resolveCutoff engine (filterEnvStep engine (tickModulated engine s.toSynth)) = cutoff := by
    rw [resolveCutoff_tick hN]
    simp +contextual only [hfe]; rfl
  have hphases := tick_oscPhases_index hN harp (s := s.toSynth) rfl
  rw [hrate] at hphases
  simp only [oscPhases, Prod.mk.injEq] at hphases
  obtain ⟨hp0, hp1, hp2⟩ := hphases
  refine ⟨?_, ?_, ?_, hp0, hp1, hp2, fun j hj => ?_, ?_, ?_, ?_, tick_prevOut_eq hN _ hcutoff, tick_smpOut_engine _⟩
  · rw [hphase]; exact tick_arp_of_lt hN harp
  · rw [hphase, hcnt]; exact tick_arp_of_le hN harp
  · rw [hv]; exact tick_env_index hN harp
  · exact ⟨tick_env_of_ne hN harp hj, by simpa only [oscPhases, Prod.mk.injEq] using tick_oscPhases_of_ne hN harp hj⟩
  · simp only [fe, hf]; exact tick_fenv_of_arp hN harp
  · refine (tick_envCutoff_eq ..).trans (ite_congr rfl (fun hen => ?_) fun _ => rfl)
    rw [hfe hen, envelopeCutoff_eq hN, min_comm]
  · have hin := tick_prevIn_of_arp (s := s.toSynth) hN harp
    rw [voiceSample_eq hN, oscMean_eq hN] at hin
    rw [hv]; exact hin

end Sys2Proof.Machine
end

section
/-! PROOF. O60: a command reads the staged preset fields and their flag only to commit them (spec/10_state.md R37,
spec/48_parameters.md R298). Every other command commutes with replacing them, operation by operation. -/

namespace Sys2Proof.Machine

variable {R : Type} {n : Nat}

/-! ## Replacing the staging -/

/-- What a preset import keeps between commands: the staged values, their valid bits and the flag (R29, R37). -/
structure Staging where
  stg : Vector Half FIELDS
  stgv : Vector Bool FIELDS
  presetErr : Bool

/-- The same state with another staging. -/
def Synth.restage (s : Synth R n) (g : Staging) : Synth R n :=
  ((s.setStg g.stg).setStgv g.stgv).setPresetErr g.presetErr

theorem sameSound_of_eq_restage {s t : Synth R n} {g : Staging} (h : t = s.restage g) : SameSound s t := by
  rw [h]; rfl

theorem exists_restage_of_sameSound {s t : Synth R n} (h : SameSound s t) : ∃ g, t = s.restage g :=
  ⟨⟨t.stg, t.stgv, t.presetErr⟩, h⟩

theorem SameSound.smpOut_eq {s t : Synth R n} (h : SameSound s t) : s.smpOut = t.smpOut :=
  (congrArg Synth.smpOut h).symm

variable (c : Config R n) (s : Synth R n) (g : Staging)

@[simp] theorem restage_pool : (s.restage g).pool = s.pool := rfl
@[simp] theorem restage_params : (s.restage g).params = s.params := rfl
@[simp] theorem restage_arp : (s.restage g).arp = s.arp := rfl

/-! ## Register writes -/

theorem arpModeSwitch_restage [NeZero n] (b : Bool) :
    arpModeSwitch c b (s.restage g) = (arpModeSwitch c b s).restage g := by
  unfold arpModeSwitch
  rw [restage_params]
  split <;> rfl

theorem writeParam_restage [NeZero n] (w : ParamWrite R) :
    writeParam c w (s.restage g) = (writeParam c w s).restage g := by
  cases w with
  | arpEn b => exact arpModeSwitch_restage c s g b
  | _ => rfl

/-! ## NOTE_ON and NOTE_OFF -/

theorem reclaim_restage : reclaim c (s.restage g) = (reclaim c s).restage g := by
  unfold reclaim
  rw [restage_params]
  split <;> rfl

theorem assignSlot_restage (i : Fin n) (note : Int) (velocity : Nat) :
    assignSlot c i note velocity (s.restage g) = (assignSlot c i note velocity s).restage g := by
  rw [assignSlot_eq, assignSlot_eq]; rfl

theorem playNote_restage (note : Int) (velocity : Nat) :
    playNote c note velocity (s.restage g) = (playNote c note velocity s).restage g := by
  unfold playNote
  dsimp only
  rw [reclaim_restage, restage_params, restage_pool]
  cases firstSlot (isFree (reclaim c s).params.arpEn) (reclaim c s).pool with
  | none => rfl
  | some i => exact assignSlot_restage c _ g i note velocity

theorem noteOn_restage (a : BitVec 8) (v : Half) : noteOn c a v (s.restage g) = (noteOn c a v s).restage g := by
  unfold noteOn
  cases noteOperand a with
  | none => rfl
  | some note => exact playNote_restage c s g note _

theorem releaseSlot_restage (i : Fin n) : releaseSlot i (s.restage g) = (releaseSlot i s).restage g := by
  rw [releaseSlot_eq, releaseSlot_eq]; rfl

theorem stopNote_restage (note : Int) : stopNote note (s.restage g) = (stopNote note s).restage g := by
  unfold stopNote
  rw [restage_params, restage_pool]
  cases firstSlot (holdsNote s.params.arpEn note) s.pool with
  | none => rfl
  | some i => exact releaseSlot_restage s g i

theorem noteOff_restage (a : BitVec 8) : noteOff a (s.restage g) = (noteOff a s).restage g := by
  unfold noteOff
  cases noteOperand a with
  | none => rfl
  | some note => exact stopNote_restage s g note

/-! ## TICK, stage by stage (R236) -/

theorem retriggerAt_restage (i : Fin n) : retriggerAt c i (s.restage g) = (retriggerAt c i s).restage g := by
  rw [retriggerAt_eq, retriggerAt_eq, restage_pool]
  split <;> rfl

theorem arpFire_restage [NeZero n] : arpFire c (s.restage g) = (arpFire c s).restage g := by
  by_cases h : pressedCount s.pool = 0
  · rw [arpFire_of_none h, arpFire_of_none (s := s.restage g) h]; rfl
  · rw [arpFire_of_some h, arpFire_of_some (s := s.restage g) h]
    exact retriggerAt_restage c (s.setArp _) g _

theorem arpStep_restage [NeZero n] : arpStep c (s.restage g) = (arpStep c s).restage g := by
  unfold arpStep
  dsimp only
  rw [arpFire_restage, restage_params, restage_arp]
  split <;> rfl

theorem tickArp_restage [NeZero n] : tickArp c (s.restage g) = (tickArp c s).restage g := by
  unfold tickArp
  rw [arpStep_restage, restage_params]
  split <;> rfl

theorem tickVoices_restage : tickVoices c (s.restage g) = (tickVoices c s).restage g := rfl

theorem lfoUpdate_restage : lfoUpdate c (s.restage g) = (lfoUpdate c s).restage g := by
  have hparams : (lfoPhaseStep c (s.restage g)).params = (lfoPhaseStep c s).params := rfl
  unfold lfoUpdate routeLfo
  rw [hparams]
  cases (lfoPhaseStep c s).params.lfoTarget <;> rfl

theorem filterEnvStep_restage : filterEnvStep c (s.restage g) = (filterEnvStep c s).restage g := by
  unfold filterEnvStep
  rw [restage_params]
  split <;> rfl

theorem tickFilter_restage (x : R) : tickFilter c x (s.restage g) = (tickFilter c x s).restage g := by
  unfold tickFilter
  rw [filterEnvStep_restage]; rfl

theorem tick_restage [NeZero n] : tick c (s.restage g) = (tick c s).restage g := by
  unfold tick
  dsimp only
  rw [tickArp_restage, tickVoices_restage, lfoUpdate_restage, tickFilter_restage]
  rfl

/-! ## Every command but PRESET_COMMIT -/

/-- PRESET_FIELD writes the staging alone, so it leaves the sound of a state as it was (R295). -/
theorem sameSound_presetField (a : BitVec 8) (v : Half) :
    SameSound (presetField a v s) (presetField a v (s.restage g)) := by
  rw [presetField_frame, presetField_frame a v (s.restage g)]; rfl

theorem sameSound_command [NeZero n] {i : Instr} (hi : i ≠ .presetCommit) :
    SameSound (command c i s) (command c i (s.restage g)) := by
  obtain rfl | ⟨w, hw⟩ | ⟨a, v, rfl⟩ | ⟨a, rfl⟩ | rfl | ⟨a, v, rfl⟩ | rfl | rfl := command_cases c.num i
  · rfl
  · rw [command_eq_writeParam c s hw, command_eq_writeParam c _ hw]
    exact sameSound_of_eq_restage (writeParam_restage c s g w)
  · exact sameSound_of_eq_restage (noteOn_restage c s g a v)
  · exact sameSound_of_eq_restage (noteOff_restage s g a)
  · exact sameSound_of_eq_restage (tick_restage c s g)
  · exact sameSound_presetField s g a v
  · exact absurd rfl hi
  · rfl

/-- Settles O60: the second state is the first with another staging, and so are the states after the command. -/
theorem stagingDoesNotInterfere : Obligations.StagingDoesNotInterfere := by
  intro i s s' t t' h hi ht ht'
  obtain ⟨g, hg⟩ := exists_restage_of_sameSound h
  rw [exec_eq_command] at ht ht'
  cases ht
  cases ht'
  have hsound : SameSound (command engine i s.toSynth) (command engine i s'.toSynth) :=
    hg ▸ sameSound_command engine s.toSynth g hi
  exact ⟨hsound, hsound.smpOut_eq⟩

end Sys2Proof.Machine
end

section
/-! PROOF. O48 to O54: the register writes of the CC and SET commands. The registers as telemetry shows them are one list,
in which a write sets one entry; the writes of the detune and of the LFO target also retune the pool
(spec/48_parameters.md R254, R260 to R289, spec/43_detune_frequency.md R174). -/

namespace Sys2Proof.Machine

variable {R : Type} {n : Nat}

/-! ## The register file as a list (R30, R254, R329) -/

/-- The values of the registers, in the order of their ids. -/
def Params.values (p : Params R) : List (ParamValue R) :=
  [.num p.attack, .num p.decay, .num p.sustain, .num p.release, .num p.fAttack, .num p.fDecay, .num p.fSustain,
    .num p.fRelease, .num p.cutoff, .bool p.fEnvEn, .wave p.waveA, .wave p.waveB, .wave p.waveC, .num p.detune,
    .num p.amplitude, .target p.lfoTarget, .wave p.lfoWave, .num p.lfoFreq, .bool p.arpEn, .num p.bpm]

theorem Params.get_eq_values_getElem? (p : Params R) (id : Nat) : p.get id = p.values[id]? := by
  rcases Nat.lt_or_ge id 20 with h | h
  · interval_cases id <;> rfl
  · obtain ⟨k, rfl⟩ := Nat.exists_eq_add_of_le' h; rfl

theorem Params.values_put (p : Params R) (w : ParamWrite R) : (p.put w).values = p.values.set w.id w.value := by
  cases w <;> rfl

theorem ParamWrite.id_lt_length_values (w : ParamWrite R) (p : Params R) : w.id < p.values.length := by
  cases w <;> simp [ParamWrite.id, Params.values]

theorem Params.get_put_self (p : Params R) (w : ParamWrite R) : (p.put w).get w.id = some w.value := by
  rw [Params.get_eq_values_getElem?, Params.values_put, List.getElem?_set_self (w.id_lt_length_values p)]

theorem Params.get_put_of_ne (p : Params R) (w : ParamWrite R) {id : Nat} (h : id ≠ w.id) :
    (p.put w).get id = p.get id := by
  rw [Params.get_eq_values_getElem?, Params.values_put, List.getElem?_set_ne h.symm, ← Params.get_eq_values_getElem?]

/-- The side effects of a register write leave the registers: the mode switch writes its own one (R218, R254). -/
theorem writeParam_params [NeZero n] (c : Config R n) (w : ParamWrite R) (s : Synth R n) :
    (writeParam c w s).params = s.params.put w := by
  cases w with
  | arpEn b =>
    show (arpModeSwitch c b s).params = _
    by_cases h : b = s.params.arpEn
    · rw [arpModeSwitch_of_eq h, h]; rfl
    · rw [arpModeSwitch_of_ne h]; rfl
  | _ => rfl

/-- Settles O54: the write sets the entry of its id in the list of the registers. -/
theorem registerWriteChangesOneRegister : Obligations.RegisterWriteChangesOneRegister := by
  intro R n _ c w s
  rw [writeParam_params]
  exact ⟨s.params.get_put_self w, fun id hid => s.params.get_put_of_ne w hid⟩

/-! ## Commands that only write their register -/

theorem exec_eq_of_command_eq {i : Instr} {s : State} {t : Synth ℚ VOICES} (h : command engine i s.toSynth = t) :
    exec i s = .next ⟨t⟩ := by
  rw [exec_eq_command, h]

/-- Settles O48: each command is the write of its register, with the controller scaled to the register's range. -/
theorem controllerNumericCommands : Obligations.ControllerNumericCommands := by
  intro s v cc
  have hunit : ccUnit engine.num v = cc / 127 := ccUnit_eq engine_exact v
  have hdouble : ccDouble engine.num v = cc / 127 * 2 := ccDouble_eq engine_exact v
  rw [← hdouble, ← hunit]
  exact ⟨exec_eq_command .., exec_eq_command .., exec_eq_command .., exec_eq_command .., exec_eq_command ..,
    exec_eq_command ..⟩

/-- The code a controller selects is a code of a waveform: 127 gives 3 (R87). -/
theorem code_ccWave (v : Half) : (ccWave v).code.toNat = min v.toNat 127 * 4 / 128 := by
  rw [ccWave, code_waveOfCode, controllerOperand]
  omega

/-- Settles O49: the three commands write the waveform of one code. -/
theorem controllerWaveCommands : Obligations.ControllerWaveCommands := fun _ v =>
  ⟨ccWave v, code_ccWave v, exec_eq_command .., exec_eq_command .., exec_eq_command ..⟩

/-- Settles O50: each command is the write of its register, with the operand in the register's format. -/
theorem setFixedPointCommands : Obligations.SetFixedPointCommands := by
  intro s v time unit
  have htime : setTime engine.num v = time := setTime_eq engine_exact v
  have hunit : setUnit engine.num v = unit := setUnit_eq engine_exact v
  rw [← htime, ← hunit, ← uq88_eq engine_exact, ← uq124_eq engine_exact]
  exact ⟨exec_eq_command .., exec_eq_command .., exec_eq_command .., exec_eq_command .., exec_eq_command ..,
    exec_eq_command .., exec_eq_command .., exec_eq_command .., exec_eq_command .., exec_eq_command ..,
    exec_eq_command .., exec_eq_command ..⟩

/-- Settles O51: the waveform commands write the waveform of one code. -/
theorem setEnumCommands : Obligations.SetEnumCommands := by
  intro s v
  rw [← setBool_eq]
  exact ⟨setWave v, code_waveOfCode _, exec_eq_command .., exec_eq_command .., exec_eq_command .., exec_eq_command ..,
    exec_eq_command ..⟩

/-! ## Commands that also retune the pool (R174) -/

/-- `apply_detune` retunes the pool for the effective detune of its own state. -/
theorem retuned_applyDetune {K : Type} [Field K] [LinearOrder K] [FloorRing K] [CharZero K] {c : Config K n}
    (hN : c.num.Exact) (s : Synth K n) : Retuned c (effectiveDetune s) s.pool (applyDetune c s).pool :=
  retuned_map hN _ _

/-- A command that writes DETUNE (R268, R283). -/
theorem exec_of_detuneWrite {i : Instr} {x : ℚ} (hi : paramWriteOf engine.num i = some (.detune x)) (s : State) :
    ∃ t, exec i s = .next t ∧ t.params = { s.params with detune := x } ∧
      t = { s with params := t.params, pool := t.pool } ∧
      Retuned engine (if s.params.lfoTarget = .detune then s.lfo.lfoDetune else t.params.detune) s.pool t.pool := by
  exact ⟨⟨applyDetune engine (putParam (.detune x) s.toSynth)⟩,
    exec_eq_of_command_eq (command_eq_writeParam engine _ hi), rfl, rfl,
    retuned_applyDetune engine_exact (putParam (.detune x) s.toSynth)⟩

/-- Settles O52: both commands write DETUNE, with the operand in the range of the register. -/
theorem detuneCommandsRetune : Obligations.DetuneCommandsRetune := by
  intro s v
  have hcc : ccUnit engine.num v = (min v.toNat 127 : Nat) / 127 := ccUnit_eq engine_exact v
  rw [← hcc, ← setUnit_eq engine_exact]
  exact ⟨exec_of_detuneWrite rfl s, exec_of_detuneWrite rfl s⟩

/-- Settles O53: the pool is retuned for the effective detune under the target just written. -/
theorem setLfoTargetRetunes : Obligations.SetLfoTargetRetunes := fun s v =>
  ⟨⟨applyDetune engine (putParam (.lfoTarget (setTarget v)) s.toSynth)⟩, exec_eq_command .., code_targetOfCode _, rfl,
    rfl, retuned_applyDetune engine_exact (putParam (.lfoTarget (setTarget v)) s.toSynth)⟩

end Sys2Proof.Machine
end

section
/-! PROOF. O55, O56 and O57: the preset import (spec/48_parameters.md R295 to R297). -/

namespace Sys2Proof.Machine

variable {R : Type} {n : Nat}

/-! ## Staging a field (R295) -/

theorem presetField_of_index {a : BitVec 8} {i : Fin FIELDS} (h : a.toNat = i.val) (v : Half) (s : Synth R n) :
    presetField a v s = (s.setStg (s.stg.set i v)).setStgv (s.stgv.set i true) := by
  simp only [presetField, h, i.isLt, dif_pos]

theorem getElem_fieldSet {α : Type} (x : Vector α FIELDS) (i j : Fin FIELDS) (y : α) :
    (x.set i y)[j] = if i = j then y else x[j] := by
  simp [Vector.getElem_set, Fin.ext_iff]

/-- Settles O55: an index in range sets one entry of the two staging vectors. -/
theorem presetFieldStages : Obligations.PresetFieldStages := by
  intro s a v
  refine ⟨fun i ha => ⟨⟨presetField a v s.toSynth⟩, exec_eq_command .., ?_⟩, fun ha => ?_⟩
  · rw [presetField_of_index ha]
    refine ⟨?_, ?_, fun j hj => ⟨?_, ?_⟩, rfl⟩
    · exact (getElem_fieldSet ..).trans (if_pos rfl)
    · exact (getElem_fieldSet ..).trans (if_pos rfl)
    · exact (getElem_fieldSet ..).trans (if_neg hj.symm)
    · exact (getElem_fieldSet ..).trans (if_neg hj.symm)
  · exact exec_eq_self (presetField_of_reservedIndex ha v _)

/-! ## The test of a record (R296) -/

theorem stagedComplete_iff {s : Synth R n} : stagedComplete s = true ↔ ∀ i : Fin FIELDS, s.stgv[i] = true := by
  simp [stagedComplete, fields]

theorem stagedEnumsOk_iff {s : Synth R n} :
    stagedEnumsOk s = true ↔
      s.stg[9].toNat ≤ 1 ∧ s.stg[10].toNat ≤ 3 ∧ s.stg[11].toNat ≤ 3 ∧ s.stg[12].toNat ≤ 3 := by
  simp [stagedEnumsOk, and_assoc]

theorem presetCommit_of_accepted (c : Config R n) {s : Synth R n} (hcomplete : stagedComplete s = true)
    (henums : stagedEnumsOk s = true) :
    presetCommit c s = acceptImport (applyDetune c (s.setParams (stagedParams c.num s))) := by
  rw [presetCommit, hcomplete, henums]; rfl

theorem presetCommit_of_rejected (c : Config R n) {s : Synth R n}
    (h : ¬(stagedComplete s = true ∧ stagedEnumsOk s = true)) : presetCommit c s = rejectImport s :=
  if_neg (by rwa [Bool.and_eq_true])

/-- The code of a waveform field in range is the staged value itself (R296). -/
theorem code_waveOfCode_of_le {m : Nat} (h : m ≤ 3) : (waveOfCode m).code.toNat = m :=
  (code_waveOfCode m).trans (min_eq_left h)

theorem boolOfCode_of_le_one {m : Nat} (h : m ≤ 1) : boolOfCode m = decide (m = 1) := by
  rw [boolOfCode_eq, decide_eq_decide]; omega

/-- Settles O56: the record passes the test, so its values are the registers, and the pool is retuned under them. -/
theorem presetCommitAcceptsCompleteRecords : Obligations.PresetCommitAcceptsCompleteRecords := by
  intro s hvalid h9 h10 h11 h12
  refine ⟨_, exec_eq_of_command_eq (presetCommit_of_accepted engine (stagedComplete_iff.mpr hvalid)
    (stagedEnumsOk_iff.mpr ⟨h9, h10, h11, h12⟩)), ?_⟩
  intro time unit
  have htime : time = fun i => setTime engine.num s.stg[i] := funext fun i => (setTime_eq engine_exact _).symm
  have hunit : unit = fun i => setUnit engine.num s.stg[i] := funext fun i => (setUnit_eq engine_exact _).symm
  rw [htime, hunit, ← boolOfCode_of_le_one h9]
  refine ⟨rfl, code_waveOfCode_of_le h10, code_waveOfCode_of_le h11, code_waveOfCode_of_le h12,
    retuned_applyDetune engine_exact (s.setParams (stagedParams engine.num s.toSynth)), rfl, fun i => ?_, rfl⟩
  exact Vector.getElem_replicate i.isLt

/-- Settles O57: PRESET_ABORT is the rejection, and each reason of the hypothesis fails the test. -/
theorem presetRejectionLeavesEngineAlone : Obligations.PresetRejectionLeavesEngineAlone := by
  intro s rejected
  refine ⟨exec_eq_command .., fun h => ?_⟩
  have hfails : ¬(stagedComplete s.toSynth = true ∧ stagedEnumsOk s.toSynth = true) := by
    rw [stagedComplete_iff, stagedEnumsOk_iff]
    rintro ⟨hvalid, h9, h10, h11, h12⟩
    obtain ⟨i, hi⟩ | h | h | h | h := h
    · exact Bool.false_ne_true (hi.symm.trans (hvalid i))
    all_goals omega
  exact exec_eq_of_command_eq (presetCommit_of_rejected engine hfails)

end Sys2Proof.Machine
end

section
/-! PROOF. O7, O10 and O11: the reset state, the reset input, and that every step and every command answers a next state
(spec/60_exceptions.md R310, spec/70_reset_and_hazards.md R340 to R342). -/

namespace Sys2Proof.Machine

variable {n : Nat}

/-- Settles O10: a step and a command are functions on the state. -/
theorem everyStepIsSafe : Obligations.EveryStepIsSafe :=
  ⟨fun s => ⟨_, step_eq_stepWith s⟩, fun i s => ⟨_, exec_eq_command i s⟩⟩

/-! ## The reset input (R340) -/

theorem stepWith_of_rst {R : Type} [NeZero n] (c : Config R n) {s : Synth R n} (h : s.rst = true) :
    stepWith c s = { Synth.reset c with rst := true, cmdIn := s.cmdIn, smpReady := s.smpReady, sink := s.sink } := by
  rw [stepWith, if_pos h, applyReset, h]

/-- Settles O7: the step is `applyReset`, under any configuration. -/
theorem resetInputRestoresResetState : Obligations.ResetInputRestoresResetState := by
  refine ⟨fun s h => ?_, fun R n _ c s h => ?_⟩
  · exact ⟨_, (step_eq_stepWith s).trans (by rw [stepWith_of_rst engine h]; rfl), rfl, rfl, rfl, rfl⟩
  · rw [stepWith_of_rst c h]; exact ⟨rfl, rfl⟩

/-! ## The reset values (R341, R342) -/

section Exact

variable {K : Type} [Field K] [LinearOrder K] [FloorRing K] {N : NumOps K}

theorem Voice.reset_eq (hN : N.Exact) :
    Voice.reset N =
      { note := -1, pressed := false, vel := 0, osc0 := ⟨0, 0⟩, osc1 := ⟨0, 0⟩, osc2 := ⟨0, 0⟩, env := ⟨.idle, 0⟩ } := by
  simp [Voice.reset, Oscillator.reset, Envelope.reset, hN.ofRat]

theorem Params.reset_eq (hN : N.Exact) :
    Params.reset N =
      { attack := 0, decay := 0, sustain := 1, release := 0, fAttack := 0, fDecay := 0, fSustain := 1, fRelease := 0,
        cutoff := 1, fEnvEn := false, waveA := .sine, waveB := .sine, waveC := .sine, detune := 0, amplitude := 1,
        lfoTarget := .off, lfoWave := .sine, lfoFreq := 0, arpEn := false, bpm := 120 } := by
  simp [Params.reset, hN.ofRat]

end Exact

/-- Settles O11: every number is a small rational, which the machine's arithmetic represents exactly. -/
theorem resetValues : Obligations.ResetValues := by
  have hzero : engine.num.ofRat 0 = 0 := engine_exact.ofRat 0
  refine ⟨fun i => ?_, Params.reset_eq engine_exact, ?_, ?_, ?_, ?_, fun i => ⟨?_, ?_⟩, rfl⟩
  · exact (Vector.getElem_replicate i.isLt).trans (Voice.reset_eq engine_exact)
  · simp only [State.reset, Synth.reset, hzero]
  · simp only [State.reset, Synth.reset, Envelope.reset, hzero]
  · simp only [State.reset, Synth.reset, hzero]
  · simp only [State.reset, Synth.reset, hzero]
  · exact Vector.getElem_replicate i.isLt
  · exact Vector.getElem_replicate i.isLt

end Sys2Proof.Machine
end

section
/-! PROOF. O44 to O47: what a TICK leaves alone in either mode, and the TICK in non-arpeggio mode from the state before it
(spec/47_mixer_tick.md R226 to R238). -/

namespace Sys2Proof.Machine

variable {n : Nat}

/-! ## What a TICK leaves alone (R237) -/

section Frame

variable {R : Type} {c : Config R n} {s : Synth R n}

/-- What a voice record holds of its key: the note, the pressed flag and the velocity. -/
def voiceKey (v : Voice R) : Int × Bool × R := (v.note, v.pressed, v.vel)

theorem voiceKey_detuneVoice (c : Config R n) (det : R) (v : Voice R) : voiceKey (detuneVoice c det v) = voiceKey v := by
  simp only [voiceKey, detuneVoice_note, detuneVoice_pressed, detuneVoice_vel]

/-- Outside arpeggio mode a TICK renders the voices that are not Idle (R226). -/
theorem eligible_iff_of_nonarp (h : s.params.arpEn = false) (i : Fin n) :
    eligible s i = true ↔ s.pool[i].env.state ≠ .idle := by
  rw [eligible, if_neg (by simp [h]), decide_eq_true_eq]

variable [NeZero n]

theorem tickRendered_voiceKey (c : Config R n) (s : Synth R n) (i : Fin n) :
    voiceKey (tickRendered c s).pool[i] = voiceKey s.pool[i] := by
  rw [getElem_tickRendered_pool, getElem_tickArp_pool]; split <;> rfl

theorem tick_voiceKey (c : Config R n) (s : Synth R n) (i : Fin n) :
    voiceKey (tick c s).pool[i] = voiceKey s.pool[i] := by
  by_cases h : s.params.lfoTarget = .detune
  · rw [getElem_tick_pool_of_detune c h, voiceKey_detuneVoice, tickRendered_voiceKey]
  · rw [tick_pool_of_not_detune c h, tickRendered_voiceKey]

theorem tick_envCutoff_of_disabled (h : s.params.fEnvEn = false) : (tick c s).flt.envCutoff = s.flt.envCutoff := by
  rw [tick_envCutoff_eq, if_neg (by simp [h])]

/-! ## TICK in non-arpeggio mode: the voices (R226, R227) -/

theorem tick_arp_of_nonarp (h : s.params.arpEn = false) : (tick c s).arp = s.arp := by
  rw [tick_arp, tickArp_of_nonarp h]

theorem getElem_tickRendered_of_idle (h : s.params.arpEn = false) {i : Fin n} (hi : s.pool[i].env.state = .idle) :
    (tickRendered c s).pool[i] = s.pool[i] := by
  rw [getElem_tickRendered_pool, tickArp_of_nonarp h,
    if_neg fun he => (eligible_iff_of_nonarp h i).mp he hi]

theorem getElem_tickRendered_of_active (h : s.params.arpEn = false) {i : Fin n} (hi : s.pool[i].env.state ≠ .idle) :
    (tickRendered c s).pool[i] = renderVoice c s.params s.pool[i] := by
  rw [getElem_tickRendered_pool, tickArp_of_nonarp h,
    if_pos ((eligible_iff_of_nonarp h i).mpr hi)]

theorem tick_env_of_idle (h : s.params.arpEn = false) {i : Fin n} (hi : s.pool[i].env.state = .idle) :
    (tick c s).pool[i].env = s.pool[i].env := by
  rw [tick_env, getElem_tickRendered_of_idle h hi]

theorem tick_oscPhases_of_idle (h : s.params.arpEn = false) {i : Fin n} (hi : s.pool[i].env.state = .idle) :
    oscPhases (tick c s).pool[i] = oscPhases s.pool[i] := by
  rw [tick_oscPhases, getElem_tickRendered_of_idle h hi]

theorem tick_env_of_active (h : s.params.arpEn = false) {i : Fin n} (hi : s.pool[i].env.state ≠ .idle) :
    (tick c s).pool[i].env = envAdvance c s.pool[i].env s.params.adsr := by
  rw [tick_env, getElem_tickRendered_of_active h hi, renderVoice_env]

end Frame

/-- A step of the arpeggiator triggers the filter's envelope only while it is enabled (R214). -/
theorem tickArp_fenv_of_disabled {K : Type} [Field K] [LinearOrder K] [FloorRing K] [CharZero K] [NeZero n]
    {c : Config K n} (hN : c.num.Exact) {s : Synth K n} (h : s.params.fEnvEn = false) : (tickArp c s).fenv = s.fenv := by
  cases harp : s.params.arpEn with
  | false => rw [tickArp_of_nonarp harp]
  | true => rw [tickArp_fenv_of_arp hN harp, if_neg (by simp [h])]

theorem tick_fenv_of_disabled {K : Type} [Field K] [LinearOrder K] [FloorRing K] [CharZero K] [NeZero n]
    {c : Config K n} (hN : c.num.Exact) {s : Synth K n} (h : s.params.fEnvEn = false) : (tick c s).fenv = s.fenv := by
  rw [tick_fenv, if_neg (by simp [h]), tickArp_fenv_of_disabled hN h]

/-- Settles O44: the frame of the whole state, of each voice record, of the filter's envelope, and of an Idle voice. -/
theorem tickFrame : Obligations.TickFrame := by
  intro s
  refine ⟨⟨tick engine s.toSynth⟩, _, exec_eq_command .., tick_smpOut .., ?_, fun i => ?_, fun i h => ?_, fun h => ?_,
    fun h => ⟨?_, fun i hi => ?_⟩⟩
  · exact congrArg State.mk (tick_frame engine s.toSynth)
  · simpa only [voiceKey, Prod.mk.injEq] using tick_voiceKey engine s.toSynth i
  · simpa only [oscFreqs, Prod.mk.injEq] using tick_oscFreqs engine h
  · exact ⟨tick_fenv_of_disabled engine_exact h, tick_envCutoff_of_disabled h⟩
  · exact tick_arp_of_nonarp h
  · refine ⟨tick_env_of_idle h hi, ?_⟩
    simpa only [oscPhases, Prod.mk.injEq] using tick_oscPhases_of_idle (c := engine) h hi

/-! ## TICK in non-arpeggio mode: the sample (R228 to R231) -/

section Exact

variable {K : Type} [Field K] [LinearOrder K] [FloorRing K] {c : Config K n} {s : Synth K n}

/-- The sum over the eligible slots in ascending order is the sum over their set: exact addition does not depend on the
order (R228). -/
theorem voiceSum_eq_sum [CharZero K] (hN : c.num.Exact) (s : Synth K n) :
    voiceSum c s = ∑ i with eligible s i = true, voiceSample c s.params s.pool[i] := by
  rw [voiceSum_eq hN, slots, ← List.sum_toFinset _ ((List.nodup_finRange n).filter _), List.toFinset_filter,
    List.toFinset_finRange]

theorem eligibleCount_eq_card {R : Type} (s : Synth R n) :
    eligibleCount s = (Finset.univ.filter fun i : Fin n => eligible s i = true).card := by
  rw [eligibleCount, List.countP_eq_length_filter, slots, ← List.toFinset_card_of_nodup ((List.nodup_finRange n).filter _),
    List.toFinset_filter, List.toFinset_finRange]

/-- The voices a TICK renders outside arpeggio mode (R226). -/
theorem filter_eligible_of_nonarp {R : Type} {s : Synth R n} (h : s.params.arpEn = false) :
    (Finset.univ.filter fun i : Fin n => eligible s i = true) =
      Finset.univ.filter fun i : Fin n => s.pool[i].env.state ≠ .idle :=
  Finset.filter_congr fun i _ => eligible_iff_of_nonarp h i

/-- The gain outside arpeggio mode (R230). -/
theorem gain_of_nonarp [CharZero K] (hN : c.num.Exact) {p : Params K} (h : p.arpEn = false) (count : Nat) :
    gain c p count = if count = 0 then 1 else 1 / c.num.sqrt count := by
  simp [gain_eq hN, h]

variable [NeZero n]

theorem tickFenvOut_of_nonarp {R : Type} {c : Config R n} {s : Synth R n} (h : s.params.arpEn = false) :
    tickFenvOut c s = (envAdvance c s.fenv s.params.fAdsr).out := by
  rw [tickFenvOut, tickArp_of_nonarp h]

theorem tick_oscPhases_of_active [CharZero K] (hN : c.num.Exact) (h : s.params.arpEn = false) {i : Fin n}
    (hi : s.pool[i].env.state ≠ .idle) :
    oscPhases (tick c s).pool[i] =
      (Int.fract (s.pool[i].osc0.phase + s.pool[i].osc0.freq / c.rate),
        Int.fract (s.pool[i].osc1.phase + s.pool[i].osc1.freq / c.rate),
        Int.fract (s.pool[i].osc2.phase + s.pool[i].osc2.freq / c.rate)) := by
  rw [tick_oscPhases, getElem_tickRendered_of_active h hi, ← phaseStep_eq hN, ← phaseStep_eq hN, ← phaseStep_eq hN]
  rfl

/-- The filter's input: gain, amplitude and clamp of the voice sum (R229, R230, R231). -/
theorem tick_prevIn_of_nonarp [IsStrictOrderedRing K] (hN : c.num.Exact) (h : s.params.arpEn = false) :
    (tick c s).flt.prevIn = max (-1) (min 1
      (voiceSum c s * (if eligibleCount s = 0 then 1 else 1 / c.num.sqrt (eligibleCount s)) *
        if s.params.lfoTarget = .amplitude then tickMultiplier c s * s.params.amplitude else s.params.amplitude)) := by
  rw [tick_prevIn, tickMixed, mixed_eq hN, effectiveAmplitude_tickModulated, hN.mul, lfoUpdate_params,
    tickRendered_params, tickArp_of_nonarp h, gain_of_nonarp hN h, min_comm]

end Exact

/-- Settles O45: each stage of the TICK from the state before it, which the arpeggiator leaves. -/
theorem tickComputesTheSample : Obligations.TickComputesTheSample := by
  intro s harp
  have hN := engine_exact
  have hrate : (engine.rate : ℚ) = 44100 := rfl
  refine ⟨⟨tick engine s.toSynth⟩, exec_eq_command .., ?_⟩
  intro active sum gain m amp mixed fe cutoff
  have hactive : (Finset.univ.filter fun i : Fin VOICES => eligible s.toSynth i = true) = active :=
    filter_eligible_of_nonarp harp
  have hcount : eligibleCount s.toSynth = active.card := by rw [eligibleCount_eq_card, hactive]
  have hsum : voiceSum engine s.toSynth = sum := by
    rw [voiceSum_eq_sum hN, hactive]
    exact Finset.sum_congr rfl fun i _ => by rw [voiceSample_eq hN, oscMean_eq hN]
  have hfe : tickFenvOut engine s.toSynth = fe.out := tickFenvOut_of_nonarp harp
  have hmixed : (tick engine s.toSynth).flt.prevIn = mixed := by
    rw [tick_prevIn_of_nonarp hN harp, hsum, hcount]
  have hcutoff : resolveCutoff engine (filterEnvStep engine (tickModulated engine s.toSynth)) = cutoff := by
    rw [resolveCutoff_tick hN, hfe]
  refine ⟨hmixed, hmixed ▸ tick_prevOut_eq hN _ hcutoff, tick_smpOut_engine _, fun hen => ⟨?_, ?_⟩, fun i hi => ?_⟩
  · exact (tick_fenv ..).trans ((if_pos hen).trans (by rw [tickArp_of_nonarp harp]))
  · exact (tick_envCutoff_eq ..).trans ((if_pos hen).trans (by rw [envelopeCutoff_eq hN, hfe, min_comm]))
  · have hi : s.pool[i].env.state ≠ .idle := (Finset.mem_filter.mp hi).2
    have hphases := tick_oscPhases_of_active hN harp hi
    rw [hrate] at hphases
    exact ⟨tick_env_of_active harp hi, by simpa only [oscPhases, Prod.mk.injEq] using hphases⟩

/-! ## Silence (R238) -/

section Silence

variable {K : Type} [Field K] [LinearOrder K] [FloorRing K] {c : Config K n} {s : Synth K n}

theorem voiceSum_of_silent [CharZero K] (hN : c.num.Exact) (h : s.params.arpEn = false)
    (hidle : ∀ i : Fin n, s.pool[i].env.state = .idle) : voiceSum c s = 0 := by
  rw [voiceSum_eq_sum hN, filter_eligible_of_nonarp h, Finset.filter_false_of_mem fun i _ => not_not.mpr (hidle i),
    Finset.sum_empty]

variable [NeZero n]

theorem tick_prevIn_of_silent [IsStrictOrderedRing K] (hN : c.num.Exact) (h : s.params.arpEn = false)
    (hidle : ∀ i : Fin n, s.pool[i].env.state = .idle) : (tick c s).flt.prevIn = 0 := by
  rw [tick_prevIn_of_nonarp hN h, voiceSum_of_silent hN h hidle, zero_mul, zero_mul, min_eq_right zero_le_one,
    max_eq_right (by norm_num)]

/-- The filter and the hand-over of the sample leave what the cutoff is resolved from. -/
theorem resolveCutoff_tick_eq {R : Type} (c : Config R n) (s : Synth R n) :
    resolveCutoff c (filterEnvStep c (tickModulated c s)) = resolveCutoff c (tick c s) := rfl

theorem tick_envs_of_silent {R : Type} {c : Config R n} {s : Synth R n} (h : s.params.arpEn = false)
    (hidle : ∀ i : Fin n, s.pool[i].env.state = .idle) :
    (tick c s).pool.map Voice.env = s.pool.map Voice.env := by
  ext1 i hi
  rw [Vector.getElem_map, Vector.getElem_map]
  exact tick_env_of_idle h (hidle ⟨i, hi⟩)

end Silence

/-- Settles O46: nothing is rendered, so the filter's input is 0. -/
theorem silenceRingsDown : Obligations.SilenceRingsDown := by
  intro s harp hidle
  have hin : (tick engine s.toSynth).flt.prevIn = 0 := tick_prevIn_of_silent engine_exact harp hidle
  have hout := tick_prevOut_eq engine_exact s.toSynth (resolveCutoff_tick_eq ..)
  rw [hin, mul_zero, zero_add] at hout
  refine ⟨⟨tick engine s.toSynth⟩, exec_eq_command .., hin, ?_, hout, fun hrest => ?_⟩
  · rw [← Vector.toList_map, ← Vector.toList_map, tick_envs_of_silent harp hidle]
  · rw [hrest, mul_zero] at hout
    exact (tick_smpOut_engine _).trans (by rw [hout, zero_mul, Int.floor_zero, Int.ceil_zero, ite_self]; rfl)

/-! ## The bound of the voice sum and of the gain (R227, R228, R230) -/

section Bound

variable {K : Type} [Field K] [LinearOrder K] [IsStrictOrderedRing K]

theorem Voice.Ok.vel_unitOk {v : Voice K} (h : v.Ok) : UnitOk v.vel := by
  obtain hv | ⟨m, -, hm, hv⟩ := h.vel <;> rw [hv]
  · exact ⟨le_rfl, zero_le_one⟩
  · exact ⟨by positivity, (div_le_one (by norm_num)).mpr (by exact_mod_cast hm)⟩

/-- The mean of three signals is a signal. -/
theorem SignalOk.mean {x y z : K} (hx : SignalOk x) (hy : SignalOk y) (hz : SignalOk z) :
    SignalOk ((x + y + z) / 3) :=
  ⟨by linarith [hx.1, hy.1, hz.1], by linarith [hx.2, hy.2, hz.2]⟩

variable [FloorRing K] {c : Config K n} {s : Synth K n}

theorem voiceSample_signalOk (hc : c.Legal) {p : Params K} (hp : p.Ok) {v : Voice K} (hv : v.Ok) :
    SignalOk (voiceSample c p v) := by
  rw [voiceSample_eq hc.exact, oscMean_eq hc.exact]
  exact (((wave_signalOk hc _ hv.phase0).mean (wave_signalOk hc _ hv.phase1) (wave_signalOk hc _ hv.phase2)).mul_unit
    (envAdvance_ok hc hp.adsr hv.env).out).mul_unit hv.vel_unitOk

theorem abs_voiceSum_le (hc : c.Legal) (h : Inv c s) : |voiceSum c s| ≤ eligibleCount s := by
  rw [voiceSum_eq_sum hc.exact, eligibleCount_eq_card]
  calc _ ≤ ∑ i with eligible s i = true, |voiceSample c s.params s.pool[i]| := Finset.abs_sum_le_sum_abs _ _
    _ ≤ _ • (1 : K) := Finset.sum_le_card_nsmul _ _ _ fun i _ =>
      abs_le.mpr (voiceSample_signalOk hc h.params (h.voice i))
    _ = _ := nsmul_one _

theorem gain_mem (hc : c.Legal) (p : Params K) (count : Nat) : 0 < gain c p count ∧ gain c p count ≤ 1 := by
  rw [gain_eq hc.exact]
  split_ifs with h
  · exact ⟨zero_lt_one, le_rfl⟩
  · have hsqrt : 1 ≤ c.num.sqrt count := hc.one_le_sqrt count (by omega)
    exact ⟨by positivity, div_le_one_of_le₀ hsqrt (by positivity)⟩

theorem eligibleCount_of_arp {R : Type} {s : Synth R n} (h : s.params.arpEn = true) : eligibleCount s = 1 := by
  rw [eligibleCount, List.countP_eq_length_filter, filter_eligible_of_arp h, List.length_singleton]

end Bound

/-- Settles O47: every term of the sum is a signal, and a root of a count is at least 1. -/
theorem voiceSumIsBounded : Obligations.VoiceSumIsBounded := by
  intro K _ _ _ _ n c s hc h
  obtain ⟨hpos, hle⟩ := gain_mem hc s.params (eligibleCount s)
  refine ⟨abs_voiceSum_le hc h, hpos, hle, fun harp => ⟨eligibleCount_of_arp harp, ?_⟩⟩
  rw [gain_eq hc.exact, if_pos (.inl harp)]

end Sys2Proof.Machine
end
